-- ==== Sys2Proof/Word.lean ====
section
/-! DEFINITION. The word types of the Jezwar 3908 (spec 00_scope.md, "Terms and abbreviations"; 12_formats.md).

Bit vectors stand for what the manual treats as bits: data, check bits, stored words, bytes of the management
port, and the two counters that wrap. Lines, physical words, places, slots and counts are compared and added,
and are natural numbers. -/

namespace Sys2Proof

/-- One byte of the management port (R188). -/
abbrev Byte := BitVec 8

/-- The 32 data bits of a word (R1). -/
abbrev DataWord := BitVec 32

/-- The 7 check bits of a stored word (R1). -/
abbrev CheckBits := BitVec 7

/-- A stored word of 39 bits, laid out as the MD lanes are: bits 31 to 0 are the data bits and bit 32 + j is
check bit j (12_formats.md, 12.1). -/
abbrev StoredWord := BitVec 39

/-- The host word address carried on HA[23:2] (R14). -/
abbrev HostAddress := BitVec 22

/-- The pass number, and any copy of it: 16 bits, wrapping from 65,535 to 0 (R84). -/
abbrev Pass := BitVec 16

/-- The report sequence number: 16 bits, wrapping from 65,535 to 0 (R176). -/
abbrev Sequence := BitVec 16

end Sys2Proof
end

