-- ==== Sys2Proof/Syntax.lean ====
section
/-! DEFINITION. The commands that the block takes: one constructor per row of spec/opcode_table.json, with the
operands that the row's event carries. The table lists operations and events; an event of a pin carries what the pins
carry, a completed memory read carries which cells of the word changed of themselves, and a management command
carries its argument bytes. -/

namespace Sys2Proof

/-- The management commands by name (R190). The byte value of each is in Machine/Codes.lean. -/
inductive Command where
  | identify | readStatus | readSetting | writeSetting | readSlot | readHealth | readMigration
  | peekReport | popReport | mapPreset | unmapSlot | migrate | cancel | clearHealth
  | startSweep | adopt | quiesce | resume | resetCold
  deriving DecidableEq, Repr

/-- The commands of the block, in the order of spec/opcode_table.json. -/
inductive Instr where
  /-- HSTB is asserted with HA[23:2], HWR, HBE[3:0] and HD[31:0] on the bus (R14). -/
  | hostStrobe (address : HostAddress) (isWrite : Bool) (enables : BitVec 4) (data : DataWord)
  /-- HSTB is deasserted (R15). -/
  | hstbDeassert
  /-- HRESET is asserted: a warm reset (R171). -/
  | hresetAssert
  /-- HRESET is deasserted (R41). -/
  | hresetDeassert
  /-- PORESET is asserted: a cold reset (R42). -/
  | poresetAssert
  /-- PORESET is deasserted (R203). -/
  | poresetDeassert
  /-- A timebase tick (R75). -/
  | timebaseTick
  /-- The tick that brings the interval timer to PATROL_INTERVAL (R75, R76). -/
  | intervalExpiry
  /-- The waiting host cycle is granted the port (R21). -/
  | hostGrant
  /-- A host READ's memory read completes; `changed` marks the cells of the word that changed of themselves since
  the word was last accessed (0: none did). -/
  | hostReadComplete (changed : StoredWord)
  /-- The QUIET write of a repaired word completes (R28). -/
  | inlineWriteBackComplete
  /-- A PARTIAL WRITE's memory read completes, with `changed` as above (R32). -/
  | partialWriteReadComplete (changed : StoredWord)
  /-- A host write to the line of record completes (R31). -/
  | hostWriteComplete
  /-- The second write of a host write, to the copy target, completes (R144). -/
  | targetWriteComplete
  /-- An access left running by a warm reset completes (R59). -/
  | abandonedAccessComplete
  /-- W is granted (R65). -/
  | drainGrant
  /-- A drain write completes (R65). -/
  | drainWriteComplete
  /-- P is granted (R80). -/
  | patrolGrant
  /-- A patrol read completes, with `changed` as above (R81). -/
  | patrolReadComplete (changed : StoredWord)
  /-- A patrol correction write completes (R82). -/
  | patrolWriteComplete
  /-- The engine takes the head request (R137). -/
  | take
  /-- M is granted (R139). -/
  | copyGrant
  /-- A copy read completes, with `changed` as above (R141). -/
  | copyReadComplete (changed : StoredWord)
  /-- A copy write completes (R142). -/
  | copyWriteComplete
  /-- S is granted (R162). -/
  | sweepGrant
  /-- A sweep write completes (R162). -/
  | sweepWriteComplete
  /-- MCS falls (R189). -/
  | frameBegin
  /-- MCS rises (R192). -/
  | frameEnd
  /-- A command byte that names no command (R190). -/
  | unknownCommand (code : Byte)
  | identify
  | readStatus
  | readSetting (identifier : Byte)
  /-- WRITE_SETTING with its identifier and 2-byte value; the eight rows below are its forms for the eight
  identifiers (R196). -/
  | writeSetting (identifier : Byte) (value : BitVec 16)
  | writeMemoryLinesLog2 (value : BitVec 16)
  | writeSpareCount (value : BitVec 16)
  | writePatrolInterval (value : BitVec 16)
  | writeDebtLimit (value : BitVec 16)
  | writeMigrateThreshold (value : BitVec 16)
  | writeMigrateOnUncorrectable (value : BitVec 16)
  | writeAgePasses (value : BitVec 16)
  | writeAlertMask (value : BitVec 16)
  | readSlot (number : Byte)
  | readHealth (place : Byte)
  | readMigration (position : Byte)
  | peekReport
  | popReport
  | mapPreset (line : BitVec 24)
  | unmapSlot (number : Byte)
  | migrate (line : BitVec 24)
  | cancel (line : BitVec 24)
  | clearHealth
  | startSweep
  | adopt
  | quiesce
  | resume
  /-- The rise of MCS that ends a RESET_COLD frame (R201). -/
  | resetCold
  /-- A rising edge of MSCK while MCS is asserted, with the level of MSI (R188). -/
  | msckRisingEdge (msi : Bool)
  deriving DecidableEq, Repr

end Sys2Proof
end

