-- ==== Sys2Proof/Config.lean ====
section
/-! DEFINITION. What the manual leaves open (free values, with no body: nothing in Lean can evaluate them), and the
fixed identification of the part. -/

namespace Sys2Proof

/-- FREE VALUE (assumption 4). The contents that a word of the array has while the manual defines none: after
power-up, and after a cold reset broke off an access to it (R42, R58). The first argument is the model's counter
`freeIndex`, so that each such word has a value of its own; the second is the physical word. -/
opaque Config.undefinedWord : Nat → Nat → StoredWord

/-- FREE VALUE (assumption 5). Which of two blocks reaches the Report Queue first when one read makes both the
reading block and the Line Health Table hand on reports: "no order is given between it and the table's reports"
(R103, R179). True: the table's reports come first. The argument is the model's counter `freeIndex`. -/
opaque Config.tableReportsFirst : Nat → Bool

/-- FREE VALUE (assumption 21). Whether a host grant's next access has begun: asked when the access before it completes, and
again when a reset meets one that had not begun at the last event. R40 and R145 give the case in which it has not begun, and
no rule says how long that lasts. The argument is the model's counter `freeIndex`. -/
opaque Config.laterAccessBegun : Nat → Bool

/-- The four bytes that IDENTIFY returns: the vendor, the part in two bytes, and record layout version 1
(12_formats.md, 12.3). -/
def Config.identification : List Byte := [0x3E#8, 0x39#8, 0x08#8, 0x01#8]

end Sys2Proof
end

