-- ==== Sys2Proof/Machine/State.lean ====
section
/-! DEFINITION. The state of the Jezwar 3908, as plain data: what each block of the part holds, the levels of the pins
that its events are edges of, the protected array, and the model's queue of commands. INVENTORY.md lists every field
with the rule that names it and its reset value. -/

namespace Sys2Proof.Machine

/-- The operating mode (R158). -/
inductive Mode where
  | uninit | sweeping | normal | quiescing | quiet
  deriving DecidableEq, Repr

/-- The class that the Check Code Unit gives a stored word (R5). -/
inductive DecodeClass where
  | clean | singleData | singleCheck | double | multi | poisoned
  deriving DecidableEq, Repr

/-- The classes that raise a health event or a report of an error: corrected (SINGLE_DATA, SINGLE_CHECK) and
uncorrectable (DOUBLE, MULTI) (R5, R95). -/
inductive ErrorClass where
  | singleData | singleCheck | double | multi
  deriving DecidableEq, Repr

/-! ### The Host Port Controller -/

/-- The direction of a host cycle, as reports carry it (R177). -/
inductive Direction where
  | read | write
  deriving DecidableEq, Repr

/-- The kind of a host cycle, with the write data captured at the strobe of a write (R14, R18). -/
inductive CycleKind where
  | read
  | fullWrite (data : DataWord)
  | partialWrite (data : DataWord)
  | nullWrite (data : DataWord)
  deriving DecidableEq, Repr

/-- The reason a HOST_REFUSED report carries (R177). -/
inductive RefusalReason where
  | range | notReady | mergeRefused | poisoned
  deriving DecidableEq, Repr

/-- The outcome of a host cycle: OKAY, or HERR with its reason or class (2.2, R36). -/
inductive HostOutcome where
  | okay
  | refused (reason : RefusalReason)
  | uncorrectable (cls : ErrorClass)
  deriving DecidableEq, Repr

/-- The record of the one host cycle in flight (2.2). -/
structure CycleRecord where
  /-- The host word address (R14). -/
  address : HostAddress
  /-- READ, FULL WRITE, PARTIAL WRITE or NULL WRITE, with the write data of a write (R14, R18). -/
  kind : CycleKind
  /-- The byte enables; used by PARTIAL WRITE (R14). -/
  enables : BitVec 4
  /-- The write-back pass flag (R24, R50). -/
  writeBackPass : Bool
  /-- The patrol pass flag (R24, R50). -/
  patrolPass : Bool
  /-- The starvation pass flag (R24, R50). -/
  starvationPass : Bool
  /-- Whether the HOST grant was made in QUIET: R38 decides an inline write-back by it. -/
  grantedInQuiet : Bool
  /-- The physical word, present from translation onward (R19, R21). -/
  word : Option Nat
  /-- The outcome, present from the response onward (2.2). -/
  outcome : Option HostOutcome
  deriving DecidableEq, Repr

/-- The states of the Host Port Controller (R17). -/
inductive HostState where
  | idle | waiting | accessing | responding | abandoned
  deriving DecidableEq, Repr

/-- The Host Port Controller and the host lines that it drives. -/
structure HostPort where
  state : HostState
  /-- The cycle held, if any (R17). -/
  record : Option CycleRecord
  /-- HRDY (R15). -/
  hrdy : Bool
  /-- HERR (R15). -/
  herr : Bool
  /-- What the part drives on HD[31:0]; none: HD is released (R15, R37). -/
  hd : Option DataWord
  deriving DecidableEq, Repr

/-! ### The Memory Port Arbiter -/

/-- The internal requesters W, P, M and S (R46). -/
inductive Step where
  | drain | patrol | copy | sweep
  deriving DecidableEq, Repr

/-- The five requesters of the memory port (R46). -/
inductive Requester where
  | host
  | step (which : Step)
  deriving DecidableEq, Repr

/-- The cases of the grant rule, 1 to 5 in order (R49). -/
inductive GrantCase where
  | urgentDrain | urgentPatrol | starvation | hostWaiting | background
  deriving DecidableEq, Repr

/-- A decision of the arbiter (R49): who is granted the port, and under which case. -/
structure Award where
  grantee : Requester
  byCase : GrantCase
  deriving DecidableEq, Repr

/-- Who holds the port: FREE, HOST or STEP (R44). -/
inductive PortHolder where
  | free
  | host
  | step (which : Step)
  deriving DecidableEq, Repr

/-- The access in progress at the memory port: its physical word, for a write the 39 bits driven on MD, and which
access of which grant it is (R43, R45). A copy step's write also carries the class that its read decoded, since the
counts change at the write's completion (R140, R141). -/
inductive Access where
  | hostRead (word : Nat)
  | inlineWriteBack (word : Nat) (stored : StoredWord)
  | mergeRead (word : Nat)
  | hostWrite (word : Nat) (stored : StoredWord)
  | targetWrite (word : Nat) (stored : StoredWord)
  | drainWrite (word : Nat) (stored : StoredWord)
  | patrolRead (word : Nat)
  | patrolWrite (word : Nat) (stored : StoredWord)
  | copyRead (word : Nat)
  | copyWrite (word : Nat) (stored : StoredWord) (source : DecodeClass)
  | sweepWrite (word : Nat) (stored : StoredWord)
  deriving DecidableEq, Repr

/-- The memory port. -/
structure MemoryPort where
  /-- FREE, HOST or STEP (R44). -/
  holder : PortHolder
  /-- The access in progress (R43), or in a gap the one that is to begin next. -/
  access : Option Access
  /-- Between two accesses of a host grant: the one before has completed, and the next has not begun (R40, R43, R145). -/
  gap : Bool
  /-- Whether a warm reset has abandoned the grant that holds the port (R59). -/
  abandoned : Bool
  deriving DecidableEq, Repr

/-! ### The Write-Back Queue -/

/-- A pending correction (4.1). -/
structure WriteBack where
  /-- The word of the array to be rewritten. -/
  word : Nat
  /-- The decoded data of the read that made the entry. -/
  data : DataWord
  deriving DecidableEq, Repr

/-! ### The Patrol Scrubber -/

/-- The patrol's state (5.1). -/
structure Patrol where
  line : Nat
  index : Nat
  pass : Pass
  debt : Nat
  timer : Nat
  deriving DecidableEq, Repr

/-! ### The Line Health Table -/

/-- Where a line stands in the repair process (6.1). -/
inductive HealthState where
  | watch | queued | moving | unrepairable
  deriving DecidableEq, Repr

/-- The source of a health event (6.1). -/
inductive EventSource where
  | host | patrol
  deriving DecidableEq, Repr

/-- An entry of the Line Health Table (6.1). -/
structure HealthEntry where
  line : Nat
  state : HealthState
  /-- The corrected count, 0 to 255, saturating. -/
  count : Nat
  /-- Uncorrectable seen. -/
  uncorrectable : Bool
  deferred : Bool
  lastClass : ErrorClass
  lastIndex : Nat
  lastSource : EventSource
  firstPass : Pass
  lastPass : Pass
  deriving DecidableEq, Repr

/-! ### The Substitution Map and the Migration Engine -/

/-- Why a migration was asked for (8.1). -/
inductive Reason where
  | threshold | uncorrectable | spareFault | command
  deriving DecidableEq, Repr

/-- Why a slot was given its home: by MAP_PRESET, or by the request that moved a line into it (R114). -/
inductive Origin where
  | preset
  | request (reason : Reason)
  deriving DecidableEq, Repr

/-- A slot record: each state with the fields that are present in it (R114). -/
inductive Slot where
  | absent
  | free
  | migrating (home : Nat) (origin : Origin) (replaces : Option Nat)
  | active (home : Nat) (origin : Origin) (installed : Pass)
  | retired (home : Nat) (origin : Origin) (installed : Pass)
  deriving DecidableEq, Repr

/-- A request of the migration queue (8.1). -/
structure MigrationRequest where
  home : Nat
  reason : Reason
  deriving DecidableEq, Repr

/-- The migration context while the engine is COPYING (8.2). -/
structure Copy where
  home : Nat
  sourceLine : Nat
  /-- Present when the source is the spare of an ACTIVE slot. -/
  sourceSlot : Option Nat
  target : Nat
  cursor : Nat
  reason : Reason
  carried : Nat
  poisoned : Nat
  abortPending : Bool
  deriving DecidableEq, Repr

/-! ### The Report Queue -/

/-- The source that an UNCORRECTABLE report names (R177). -/
inductive ReadSource where
  | host | patrol | migration
  deriving DecidableEq, Repr

/-- The reason of a MIGRATION_FAILED report (R177). -/
inductive FailureReason where
  | poolEmpty | cancelled
  deriving DecidableEq, Repr

/-- A report with the fields of its kind (R177). NEW_WEAK_LINE carries whether its class is SINGLE_CHECK, and
UNCORRECTABLE whether its class is MULTI, since each kind has two classes only. MIGRATION_DONE names its source slot,
or none when the source was the home line itself. -/
inductive Report where
  | newWeakLine (line index : Nat) (isCheck : Bool) (source : EventSource)
  | uncorrectable (word : Nat) (isMulti : Bool) (source : ReadSource)
  | hostRefused (address : HostAddress) (direction : Direction) (reason : RefusalReason)
  | migrationDone (home target : Nat) (sourceSlot : Option Nat) (carried poisoned : Nat)
  | migrationFailed (home : Nat) (reason : FailureReason)
  | migrationDeferred (home : Nat)
  | healthFull (line : Nat)
  | sweepDone (lines : Nat)
  | quietReached
  | warmReset (modeBefore : Mode) (discarded : Nat) (abortedHome : Option Nat)
  | lost (count : Nat)
  deriving DecidableEq, Repr

/-- A record of the Report Queue (10.1). -/
structure ReportRecord where
  sequence : Sequence
  pass : Pass
  report : Report
  deriving DecidableEq, Repr

/-! ### The Management Port -/

/-- The settings (R196). -/
structure Settings where
  memoryLinesLog2 : Nat
  spareCount : Nat
  patrolInterval : Nat
  debtLimit : Nat
  migrateThreshold : Nat
  migrateOnUncorrectable : Bool
  agePasses : Nat
  /-- Bit k - 1 enables report kind code k (12_formats.md, 12.4). -/
  alertMask : BitVec 10
  deriving DecidableEq, Repr

/-- The frame states (R189). -/
inductive FrameState where
  | idle | command | arguments | response | trailing
  deriving DecidableEq, Repr

/-- The frame in progress (11, "The Management Port"). -/
structure Frame where
  state : FrameState
  /-- The count of bits received in the current byte. -/
  bitCount : Nat
  /-- The bits of the current byte received so far, in its low bits. -/
  bits : Byte
  /-- The command byte. -/
  command : Byte
  /-- The argument bytes received so far. -/
  args : List Byte
  /-- The response formed at execution. -/
  response : List Byte
  /-- The count of response bytes already sent. -/
  sent : Nat
  deriving DecidableEq, Repr

/-! ### The machine -/

/-- The whole state. -/
@[ext]
structure State where
  /-- HSTB is asserted (R14: what the controller finds when it becomes IDLE). -/
  hstb : Bool
  /-- HSTB has stayed asserted since the strobe of the cycle held: what a response finds, since an assertion that is no strobe
  is as if it had not been made (R15, R16; assumption 24). -/
  strobeHeld : Bool
  /-- HRESET is asserted (R14, R39). -/
  hreset : Bool
  /-- PORESET is asserted (R203). -/
  poreset : Bool
  /-- MCS is asserted (R188, R203). -/
  mcs : Bool
  host : HostPort
  port : MemoryPort
  /-- The arbiter's decision whose grant has not been carried out yet; see `State.settled`. -/
  award : Option Award
  /-- The MODEL's own: the outstanding decision was made at a release, so that a take which is due may still reach the
  engine before it (R53; assumption 10). -/
  decisionOpen : Bool
  /-- The starvation counter (R51). -/
  starvation : Nat
  /-- The Write-Back Queue, oldest first (R61). -/
  writeBacks : List WriteBack
  patrol : Patrol
  /-- The 32 places of the Line Health Table; none: the place is empty (R94). -/
  health : List (Option HealthEntry)
  /-- The 64 slot records (R114). -/
  slots : List Slot
  /-- The migration queue, oldest first (R132). -/
  migrations : List MigrationRequest
  /-- The migration context; none: IDLE, with its other fields absent (R135). -/
  copy : Option Copy
  mode : Mode
  /-- The sweep line cursor (R158). -/
  sweepLine : Nat
  /-- The sweep word index (R158). -/
  sweepIndex : Nat
  /-- The Report Queue, oldest first (R176). -/
  reports : List ReportRecord
  /-- The sequence counter (R176). -/
  sequence : Sequence
  /-- ALERT is asserted (R183). -/
  alert : Bool
  settings : Settings
  frame : Frame
  /-- The words of the array whose contents are defined, by physical word, in rising order. An unlisted word has no
  defined contents; see `State.readCells`. -/
  cells : List (Nat × StoredWord)
  /-- The MODEL's own counter: how many free values have been used (assumptions 4, 5 and 21). -/
  freeIndex : Nat
  /-- The MODEL's own queue of commands that are waiting, first in, first out. -/
  pending : List Instr
  deriving DecidableEq, Repr

/-- Why the machine stops with a fault: the type has no constructor, for the spec names no condition in which the part
stops. Nothing raises a fault, so this is safe: no behaviour is cut short. -/
inductive Fault where
  deriving DecidableEq, Repr

/-- Why a command has no meaning. -/
inductive Refusal where
  /-- An arm of `exec` whose command has no meaning yet answers it. No arm does, so this is safe. -/
  | notModelled (mnemonic : String)
  deriving DecidableEq, Repr

/-- The controller with no cycle: HRDY and HERR deasserted, HD released (R17). -/
def HostPort.none : HostPort :=
  { state := .idle, record := Option.none, hrdy := false, herr := false, hd := Option.none }

/-- The FREE port (R44). -/
def MemoryPort.free : MemoryPort :=
  { holder := .free, access := none, gap := false, abandoned := false }

/-- The port with no frame: IDLE, with no command, argument bytes or response held (R204). -/
def Frame.none : Frame :=
  { state := .idle, bitCount := 0, bits := 0#8, command := 0#8, args := [], response := [], sent := 0 }

/-- The defaults of the settings (R196). -/
def Settings.default : Settings :=
  { memoryLinesLog2 := 16
    spareCount := 32
    patrolInterval := 64
    debtLimit := 8
    migrateThreshold := 4
    migrateOnUncorrectable := true
    agePasses := 2
    alertMask := 0x3FF#10 }

/-- The machine right after a cold reset, with PORESET and every other input line deasserted: every block at the cold
reset value its own rule gives (R42, R58, R73, R92, R113, R131, R156, R158, R186, R204). The levels of the input
lines, the array (no word defined) and the model's own fields are named in assumptions 1, 3 and 4. -/
def State.reset : State :=
  { hstb := false
    strobeHeld := false
    hreset := false
    poreset := false
    mcs := false
    host := HostPort.none
    port := MemoryPort.free
    award := none
    decisionOpen := false
    starvation := 0
    writeBacks := []
    patrol := { line := 0, index := 0, pass := 0#16, debt := 0, timer := 0 }
    health := List.replicate 32 none
    slots := List.replicate 32 Slot.free ++ List.replicate 32 Slot.absent
    migrations := []
    copy := none
    mode := .uninit
    sweepLine := 0
    sweepIndex := 0
    reports := []
    sequence := 0#16
    alert := false
    settings := Settings.default
    frame := Frame.none
    cells := []
    freeIndex := 0
    pending := [] }

end Sys2Proof.Machine
end

