-- ==== Sys2Proof/Machine/CheckCode.lean ====
section
/-! DEFINITION. The Check Code Unit (01_the_check_code.md): encoding, decoding and the poison marker. It holds no state
(R13). -/

namespace Sys2Proof.Machine

/-- The data bits of a stored word: MD[31:0] (12_formats.md, 12.1). -/
def storedData (w : StoredWord) : DataWord := w.extractLsb' 0 32

/-- The check bits of a stored word: MD[38:32] (12_formats.md, 12.1). -/
def storedCheck (w : StoredWord) : CheckBits := w.extractLsb' 32 7

/-- The stored word with these check bits and these data bits. -/
def storeWord (check : CheckBits) (data : DataWord) : StoredWord := check ++ data

/-- The columns of data bits 0 to 31, in data-bit order: the weight-three values in ascending order, without the
three largest (R2). -/
def dataColumns : List CheckBits :=
  [7#7, 11#7, 13#7, 14#7, 19#7, 21#7, 22#7, 25#7,
    26#7, 28#7, 35#7, 37#7, 38#7, 41#7, 42#7, 44#7,
    49#7, 50#7, 52#7, 56#7, 67#7, 69#7, 70#7, 73#7,
    74#7, 76#7, 81#7, 82#7, 84#7, 88#7, 97#7, 98#7]

/-- The exclusive-OR of the columns, from data bit `i` up, whose data bit is 1. -/
def xorColumns (data : DataWord) : Nat → List CheckBits → CheckBits
  | _, [] => 0#7
  | i, column :: rest =>
    (if data.getLsbD i then column else 0#7) ^^^ xorColumns data (i + 1) rest

/-- The generated check value of 32 data bits (R3). -/
def generatedCheck (data : DataWord) : CheckBits := xorColumns data 0 dataColumns

/-- The encoded word of 32 data bits (R3). -/
def encode (data : DataWord) : StoredWord := storeWord (generatedCheck data) data

/-- The poison marker over 32 data bits: their encoding with every check bit inverted (R8). -/
def poisonMarker (data : DataWord) : StoredWord := storeWord (generatedCheck data ^^^ 127#7) data

/-- The syndrome of a stored word (R4). -/
def syndrome (w : StoredWord) : CheckBits := storedCheck w ^^^ generatedCheck (storedData w)

/-- The number of ones of a 7-bit value. -/
def weight (c : CheckBits) : Nat :=
  ((List.range 7).filter fun j => c.getLsbD j).length

/-- The data bit whose column a syndrome is, if it is one (R5). -/
def namedDataBit (c : CheckBits) : Option Nat :=
  dataColumns.findIdx? fun column => column == c

/-- The class of a syndrome (R5). -/
def classOfSyndrome (c : CheckBits) : DecodeClass :=
  if weight c = 0 then .clean
  else if weight c = 1 then .singleCheck
  else if weight c = 7 then .poisoned
  else if weight c % 2 = 0 then .double
  else if (namedDataBit c).isSome then .singleData
  else .multi

/-- A decode result: the class, the decoded data and the flag (R6), with the repaired word (R7). -/
structure Decoded where
  cls : DecodeClass
  data : DataWord
  flag : Bool
  repaired : StoredWord
  deriving DecidableEq, Repr

/-- The decoded data: the stored data, with the named data bit inverted for SINGLE_DATA (R6). -/
def decodedData (w : StoredWord) : DataWord :=
  match namedDataBit (syndrome w) with
  | some i => storedData w ^^^ BitVec.twoPow 32 i
  | none => storedData w

/-- The decode result of a stored word (R5, R6, R7). -/
def decode (w : StoredWord) : Decoded :=
  { cls := classOfSyndrome (syndrome w)
    data := decodedData w
    flag := match classOfSyndrome (syndrome w) with
      | .poisoned | .double | .multi => true
      | .clean | .singleData | .singleCheck => false
    repaired := encode (decodedData w) }

/-- The error class of a decode class: none for CLEAN and POISONED, which raise no health event (R95). -/
def DecodeClass.error : DecodeClass → Option ErrorClass
  | .singleData => some .singleData
  | .singleCheck => some .singleCheck
  | .double => some .double
  | .multi => some .multi
  | .clean | .poisoned => none

/-- Corrected: SINGLE_DATA or SINGLE_CHECK (R5). -/
def ErrorClass.corrected : ErrorClass → Bool
  | .singleData | .singleCheck => true
  | .double | .multi => false

/-- The data bits of the byte lanes whose enable is asserted: HBE[k] enables data bits 8k to 8k + 7 (2.1). -/
def laneMask (enables : BitVec 4) : DataWord :=
  (if enables.getLsbD 3 then 0xFF#8 else 0x00#8) ++ (if enables.getLsbD 2 then 0xFF#8 else 0x00#8)
    ++ (if enables.getLsbD 1 then 0xFF#8 else 0x00#8) ++ (if enables.getLsbD 0 then 0xFF#8 else 0x00#8)

/-- The merged data of a PARTIAL WRITE: the decoded data with each enabled byte lane replaced by that lane of the write
data (R32). -/
def mergeLanes (enables : BitVec 4) (decoded written : DataWord) : DataWord :=
  (decoded &&& ~~~ laneMask enables) ||| (written &&& laneMask enables)

end Sys2Proof.Machine
end

