-- ==== Sys2Proof/Machine/Ops.lean ====
section
/-! DEFINITION. The named operations that several blocks share: access to the protected array, and handing a report to
the Report Queue (10_error_reports_and_the_alert_line.md). -/

namespace Sys2Proof.Machine

/-! ### The array -/

/-- The contents of a physical word, where they are defined. -/
def getCell : List (Nat × StoredWord) → Nat → Option StoredWord
  | [], _ => none
  | (k, v) :: rest, a => if k = a then some v else getCell rest a

/-- The array with one word written; the words stay in rising order. -/
def setCell : List (Nat × StoredWord) → Nat → StoredWord → List (Nat × StoredWord)
  | [], a, w => [(a, w)]
  | (k, v) :: rest, a, w =>
    if a < k then (a, w) :: (k, v) :: rest
    else if a = k then (a, w) :: rest
    else (k, v) :: setCell rest a w

/-- The array with one word's contents no longer defined. -/
def dropCell : List (Nat × StoredWord) → Nat → List (Nat × StoredWord)
  | [], _ => []
  | (k, v) :: rest, a => if k = a then rest else (k, v) :: dropCell rest a

/-- The canonical form of the array: addresses strictly rising. -/
def cellsWf : List (Nat × StoredWord) → Bool
  | [] => true
  | [_] => true
  | (k, _) :: (k', v') :: rest => decide (k < k') && cellsWf ((k', v') :: rest)

/-- A completed write: the array holds the 39 bits written (R43). -/
def State.writeCell (s : State) (a : Nat) (w : StoredWord) : State :=
  { s with cells := setCell s.cells a w }

/-- A completed read: the 39 bits taken from MD (R43), and the state after it. The array gives what the word holds, with
the cells in `changed` inverted: "A cell of the array that changes of itself is not a write of the part. Its effect is
met by the decode of whichever line is read" (R142). A word without defined contents gives a free value (assumption 4).
The bits found are what the word holds from then on. -/
def State.readCells (s : State) (a : Nat) (changed : StoredWord) : StoredWord × State :=
  match getCell s.cells a with
  | some w => (w ^^^ changed, s.writeCell a (w ^^^ changed))
  | none =>
    let w := Config.undefinedWord s.freeIndex a ^^^ changed
    (w, { s with cells := setCell s.cells a w, freeIndex := s.freeIndex + 1 })

/-! ### Physical words -/

/-- The physical word of a line and a word index (00_scope.md; 12_formats.md, 12.1). -/
def wordAt (line index : Nat) : Nat := line * 8 + index

/-- The physical line of a physical word (12_formats.md, 12.1). -/
def lineOf (word : Nat) : Nat := word / 8

/-- The word index of a physical word (12_formats.md, 12.1). -/
def indexOf (word : Nat) : Nat := word % 8

/-! ### Settings in use -/

/-- MEMORY_LINES: 2 raised to MEMORY_LINES_LOG2 (00_scope.md). -/
def State.memoryLines (s : State) : Nat := 2 ^ s.settings.memoryLinesLog2

/-- POOL_BASE: MEMORY_LINES minus SPARE_COUNT (00_scope.md). -/
def State.poolBase (s : State) : Nat := s.memoryLines - s.settings.spareCount

/-! ### The Report Queue -/

/-- The kind code of a report (12_formats.md, 12.6). -/
def Report.code : Report → Nat
  | .newWeakLine .. => 1
  | .uncorrectable .. => 2
  | .hostRefused .. => 3
  | .migrationDone .. => 4
  | .migrationFailed .. => 5
  | .migrationDeferred .. => 6
  | .healthFull .. => 7
  | .sweepDone .. => 8
  | .quietReached => 9
  | .warmReset .. => 10
  | .lost .. => 11

/-- Whether a report is a LOST record. -/
def Report.isLost : Report → Bool
  | .lost _ => true
  | _ => false

/-- What ALERT follows: a record whose kind is enabled in ALERT_MASK, or any LOST record (R183). -/
def alertCondition (mask : BitVec 10) (reports : List ReportRecord) : Bool :=
  reports.any fun r => r.report.isLost || mask.getLsbD (r.report.code - 1)

/-- ALERT re-evaluated against the records in the queue and ALERT_MASK (R183). -/
def State.evaluateAlert (s : State) : State :=
  { s with alert := alertCondition s.settings.alertMask s.reports }

/-- A record appended at the tail: it takes the sequence counter's value and the current pass number, the counter
increases, and ALERT is re-evaluated (R176, R183). -/
def State.pushReport (s : State) (r : Report) : State :=
  State.evaluateAlert
    { s with
      reports := s.reports ++ [{ sequence := s.sequence, pass := s.patrol.pass, report := r }]
      sequence := s.sequence + 1 }

/-- The count of a LOST record increased by 1, staying at 255 (R178). -/
def bumpLost (r : ReportRecord) : ReportRecord :=
  match r.report with
  | .lost n => { r with report := .lost (min 255 (n + 1)) }
  | _ => r

/-- Whether the tail of the queue is a LOST record. -/
def tailIsLost (reports : List ReportRecord) : Bool :=
  match reports.getLast? with
  | some r => r.report.isLost
  | none => false

/-- The queue with its tail's count increased (R178). -/
def countAtTail (reports : List ReportRecord) : List ReportRecord :=
  reports.dropLast ++ (reports.getLast?.map bumpLost).toList

/-- A report handed to the queue: appended, counted or dropped by the queue's length (R178). A queue of 16 ends in a
LOST record (R178), so the last case, a full queue with another tail, is met by no run; there the report is dropped. -/
def State.append (s : State) (r : Report) : State :=
  if s.reports.length < 15 then s.pushReport r
  else if tailIsLost s.reports then { s with reports := countAtTail s.reports }
  else if s.reports.length = 15 then s.pushReport (.lost 1)
  else s

/-- Reports handed one after another. -/
def State.appendAll (s : State) (rs : List Report) : State := rs.foldl State.append s

/-- The reports of one read: the reading block's own, and those of the Line Health Table. They come from different
blocks and the manual gives them no order (R103, R179), except that the table's come one after another; so where both
are present a free value says which come first (assumption 5). -/
def State.appendForRead (s : State) (own : Report) (table : List Report) : State :=
  match table with
  | [] => s.append own
  | _ :: _ =>
    let t : State := { s with freeIndex := s.freeIndex + 1 }
    if Config.tableReportsFirst s.freeIndex then (t.appendAll table).append own
    else (t.append own).appendAll table

end Sys2Proof.Machine
end

