-- ==== Sys2Proof/Machine/SubstitutionMap.lean ====
section
/-! DEFINITION. The Substitution Map (07_the_substitution_map_and_spare_pool.md): translation, lines of record,
allocation, commit and abort. -/

namespace Sys2Proof.Machine

/-- Whether a slot is ACTIVE with this home line. -/
def Slot.activeFor (home : Nat) : Slot → Bool
  | .active h _ _ => h == home
  | _ => false

/-- The home line of an ACTIVE slot. -/
def Slot.activeHome : Slot → Option Nat
  | .active h _ _ => some h
  | _ => none

/-- The number of the ACTIVE slot that stands in for a home line, if there is one (R116, R117). -/
def State.activeSlot (s : State) (home : Nat) : Option Nat :=
  s.slots.findIdx? (Slot.activeFor home)

/-- The lowest-numbered FREE slot (R120). -/
def State.freeSlot (s : State) : Option Nat :=
  s.slots.findIdx? fun slot => slot == .free

/-- The free spare count (R128). -/
def State.freeSpares (s : State) : Nat := s.slots.countP fun slot => slot == .free

/-- The translation of a host line: its line of record (R117). -/
def State.translate (s : State) (home : Nat) : Nat :=
  match s.activeSlot home with
  | some slot => s.poolBase + slot
  | none => home

/-- The ACTIVE slot's home line for which a physical line is the spare (R100, R115). -/
def State.homeOfSpare (s : State) (line : Nat) : Option Nat :=
  if s.poolBase ≤ line then s.slots[line - s.poolBase]?.bind Slot.activeHome else none

/-- Whether a physical line is the line of record of some host line (R78). -/
def State.ofRecord (s : State) (line : Nat) : Bool :=
  if line < s.poolBase then (s.activeSlot line).isNone else (s.homeOfSpare line).isSome

/-- One slot record replaced. -/
def State.setSlot (s : State) (number : Nat) (slot : Slot) : State :=
  { s with slots := s.slots.set number slot }

/-- A slot made ACTIVE by a commit: its home line and origin are kept (R121). -/
def Slot.commit (pass : Pass) : Slot → Slot
  | .migrating home origin _ => .active home origin pass
  | slot => slot

/-- A slot retired by a commit: its home line, origin and installed pass are kept (R121). -/
def Slot.retire : Slot → Slot
  | .active home origin installed => .retired home origin installed
  | slot => slot

/-- The map's part of a commit (R121). -/
def State.commitSlots (s : State) (target : Nat) (replaced : Option Nat) : State :=
  let slots := s.slots.modify target (Slot.commit s.patrol.pass)
  match replaced with
  | some r => { s with slots := slots.modify r Slot.retire }
  | none => { s with slots := slots }

end Sys2Proof.Machine
end

