-- ==== Sys2Proof/Machine/HealthTable.lean ====
section
/-! DEFINITION. The Line Health Table's places and entries (06_the_line_health_table.md): matching, creation, eviction,
aging, and the changes that the Migration Engine asks for. What a health event does is in Machine/HealthEvents.lean. -/

namespace Sys2Proof.Machine

/-- A health event: the physical line, the word index, the class and the source (R95). -/
structure HealthEvent where
  line : Nat
  index : Nat
  cls : ErrorClass
  source : EventSource
  deriving DecidableEq, Repr

/-- Whether a place holds the entry for a line; matching is by physical line alone (R94). -/
def holdsLine (line : Nat) : Option HealthEntry → Bool
  | some e => e.line == line
  | none => false

/-- The entry for a line. -/
def State.healthEntry (s : State) (line : Nat) : Option HealthEntry :=
  (s.health.find? (holdsLine line)).join

/-- The entry for a line changed, wherever it stands. -/
def State.updateHealth (s : State) (line : Nat) (f : HealthEntry → HealthEntry) : State :=
  { s with health := s.health.map (Option.map fun e => if e.line = line then f e else e) }

/-- The entries that a test names removed: their places become empty and the other entries keep theirs (R94). -/
def State.removeHealth (s : State) (gone : HealthEntry → Bool) : State :=
  { s with health := s.health.map fun place => place.filter fun e => !gone e }

/-- The age of an entry: the pass number minus its last pass, modulo 65,536 (R94). -/
def HealthEntry.age (e : HealthEntry) (pass : Pass) : Nat := (pass - e.lastPass).toNat

/-- An entry updated by an event (R96). -/
def HealthEntry.recordEvent (e : HealthEntry) (ev : HealthEvent) (pass : Pass) : HealthEntry :=
  { e with
    count := if ev.cls.corrected then min 255 (e.count + 1) else e.count
    uncorrectable := e.uncorrectable || !ev.cls.corrected
    lastClass := ev.cls
    lastIndex := ev.index
    lastSource := ev.source
    lastPass := pass }

/-- The entry that an event creates (R97). -/
def HealthEvent.newEntry (ev : HealthEvent) (pass : Pass) : HealthEntry :=
  { line := ev.line
    state := .watch
    count := if ev.cls.corrected then 1 else 0
    uncorrectable := !ev.cls.corrected
    deferred := false
    lastClass := ev.cls
    lastIndex := ev.index
    lastSource := ev.source
    firstPass := pass
    lastPass := pass }

/-- The lowest-numbered empty place (R94). -/
def emptyPlace (places : List (Option HealthEntry)) : Option Nat := places.findIdx? Option.isNone

/-- Whether an entry is the better victim of two: the lower corrected count, then the greater age (R98). -/
def HealthEntry.goesBefore (pass : Pass) (e other : HealthEntry) : Bool :=
  e.count < other.count || (e.count == other.count && other.age pass < e.age pass)

/-- The victim among the places from `place` up, given the best found so far; a later place displaces it only when it
is strictly better, so ties go to the lowest place (R98). -/
def victimFrom (pass : Pass) : Nat → List (Option HealthEntry) → Option (Nat × HealthEntry) →
    Option (Nat × HealthEntry)
  | _, [], best => best
  | place, none :: rest, best => victimFrom pass (place + 1) rest best
  | place, some e :: rest, best =>
    if e.state = .watch then
      match best with
      | none => victimFrom pass (place + 1) rest (some (place, e))
      | some b =>
        victimFrom pass (place + 1) rest (if e.goesBefore pass b.2 then some (place, e) else some b)
    else victimFrom pass (place + 1) rest best

/-- The place of the WATCH entry that an event evicts from a full table (R98). -/
def evictionPlace (pass : Pass) (places : List (Option HealthEntry)) : Option Nat :=
  (victimFrom pass 0 places none).map Prod.fst

/-- Where an event on a line without an entry is recorded: the lowest empty place (R97), or in a full table the place of
the evicted entry (R98); none: the table is full and holds no WATCH entry (R99). -/
def State.placeForNew (s : State) : Option Nat :=
  match emptyPlace s.health with
  | some p => some p
  | none => evictionPlace s.patrol.pass s.health

/-- The entry returned to WATCH with deferred no (R107, R112). -/
def HealthEntry.backToWatch (e : HealthEntry) : HealthEntry :=
  { e with state := .watch, deferred := false }

/-- At an abort, the source line's entry, if it is in MOVING, returns to WATCH (R107). -/
def State.healthAborted (s : State) (line : Nat) : State :=
  s.updateHealth line fun e => if e.state = .moving then e.backToWatch else e

/-- When CANCEL removes a queued request, its source's entry, if it is in QUEUED, returns to WATCH (R107). -/
def State.healthUnqueued (s : State) (line : Nat) : State :=
  s.updateHealth line fun e => if e.state = .queued then e.backToWatch else e

/-- At a warm reset every entry in QUEUED or MOVING returns to WATCH (R112). -/
def State.healthWarmReset (s : State) : State :=
  { s with
    health := s.health.map (Option.map fun e =>
      if e.state = .queued ∨ e.state = .moving then e.backToWatch else e) }

/-- Aging at a pass end, under the new pass number (R108). -/
def State.ageHealth (s : State) (pass : Pass) : State :=
  if s.settings.agePasses = 0 then s
  else s.removeHealth fun e => e.state == .watch && decide (s.settings.agePasses ≤ e.age pass)

end Sys2Proof.Machine
end

