-- ==== Sys2Proof/Machine/MigrationEngine.lean ====
section
/-! DEFINITION. The Migration Engine (08_the_migration_engine.md): the intake, the take, the commit and the abort. The
copy step's accesses are in Machine/StepCommands.lean. -/

namespace Sys2Proof.Machine

/-- The intake's answer (R133). -/
inductive IntakeAnswer where
  | accepted | duplicate | queueFull
  deriving DecidableEq, Repr

/-- The intake's answer to a request for a home line: a duplicate is tested before the queue is found full (R133). -/
def State.intakeAnswer (s : State) (home : Nat) : IntakeAnswer :=
  if s.migrations.any (fun r => r.home == home) || s.copy.any (fun c => c.home == home) then .duplicate
  else if 4 ≤ s.migrations.length then .queueFull
  else .accepted

/-- The queue after the intake: an accepted request is appended at the tail (R133). -/
def State.intake (s : State) (home : Nat) (reason : Reason) : State :=
  match s.intakeAnswer home with
  | .accepted => { s with migrations := s.migrations ++ [{ home := home, reason := reason }] }
  | .duplicate | .queueFull => s

/-- Whether a take is due: the engine is IDLE, the mode is NORMAL and the queue holds a request (R136). -/
def State.takeDue (s : State) : Bool :=
  s.copy.isNone && s.mode == .normal && !s.migrations.isEmpty

/-- A take with the head request removed and its target slot found (R120, R137, R104): the source line is the line of
record of the home, the source slot its ACTIVE slot. -/
def State.beginCopy (s : State) (r : MigrationRequest) (target : Nat) : State :=
  let source := s.translate r.home
  let sourceSlot := s.activeSlot r.home
  let t := s.setSlot target (.migrating r.home (.request r.reason) sourceSlot)
  let t := { t with
    copy := some
      { home := r.home
        sourceLine := source
        sourceSlot := sourceSlot
        target := target
        cursor := 0
        reason := r.reason
        carried := 0
        poisoned := 0
        abortPending := false } }
  let t := t.updateHealth source fun e => { e with state := .moving }
  t.removeHealth fun e => e.line == s.poolBase + target

/-- A take that finds no FREE slot (R138, R105). -/
def State.takeFails (s : State) (r : MigrationRequest) : State :=
  (s.updateHealth (s.translate r.home) fun e => { e with state := .unrepairable }).append
    (.migrationFailed r.home .poolEmpty)

/-- The take of the head request (R137, R138). -/
def State.takeHead (s : State) : State :=
  match s.migrations with
  | [] => s
  | r :: rest =>
    let t : State := { s with migrations := rest }
    match s.freeSlot with
    | some target => t.beginCopy r target
    | none => t.takeFails r

/-- The commit (R146): the map, the Write-Back Queue, the Line Health Table, the report and the context. -/
def State.commitCopy (s : State) (c : Copy) : State :=
  let t := s.commitSlots c.target c.sourceSlot
  let t := { t with writeBacks := t.writeBacks.filter fun w => lineOf w.word != c.sourceLine }
  let t := t.removeHealth fun e => e.line == c.sourceLine
  let t := { t with copy := none }
  t.append (.migrationDone c.home c.target c.sourceSlot c.carried c.poisoned)

/-- What every abort does: the target slot returns to FREE (R122), the source line's entry to WATCH (R107), and the
context becomes IDLE. -/
def State.dropCopy (s : State) (c : Copy) : State :=
  let t := (s.setSlot c.target .free).healthAborted c.sourceLine
  { t with copy := none }

/-- The abort made by CANCEL (R151). -/
def State.cancelCopy (s : State) (c : Copy) : State :=
  (s.dropCopy c).append (.migrationFailed c.home .cancelled)

end Sys2Proof.Machine
end

