-- ==== Sys2Proof/Machine/Flags.lean ====
section
/-! DEFINITION. The conditions that blocks read of one another: the presence and urgency of the requesters (R46, R47)
and the quiesce conditions (R167). -/

namespace Sys2Proof.Machine

/-- H is present: the Host Port Controller is in WAITING (R46). -/
def State.hostWaiting (s : State) : Bool := s.host.state == .waiting

/-- The presence of W, P, M and S (R46). -/
def State.stepPresent (s : State) : Step → Bool
  | .drain => !s.writeBacks.isEmpty
  | .patrol => decide (1 ≤ s.patrol.debt) && s.mode == .normal
  | .copy => s.copy.isSome
  | .sweep => s.mode == .sweeping

/-- W is urgent: the queue holds 8 entries (R47). -/
def State.drainUrgent (s : State) : Bool := s.writeBacks.length == 8

/-- P is urgent: it is present and debt equals DEBT_LIMIT (R47). -/
def State.patrolUrgent (s : State) : Bool :=
  s.stepPresent .patrol && s.patrol.debt == s.settings.debtLimit

/-- The first present of W, M, P, S, in that order (R49). -/
def State.firstStep (s : State) : Option Step :=
  [Step.drain, .copy, .patrol, .sweep].find? s.stepPresent

/-- Whether a pass-over flag of a waiting host cycle is set (R49). -/
def State.passed (s : State) (flag : CycleRecord → Bool) : Bool :=
  s.hostWaiting && s.host.record.any flag

/-- The quiesce conditions: the engine is IDLE and the Write-Back Queue is empty (R167). -/
def State.quiesceConditions (s : State) : Bool := s.copy.isNone && s.writeBacks.isEmpty

end Sys2Proof.Machine
end

