-- ==== Sys2Proof/Machine/Operands.lean ====
section
/-! DEFINITION. What a host strobe's operands say: the kind of the cycle (R18), its line and index (2.2), and the
admission tests (R19). -/

namespace Sys2Proof.Machine

/-- The kind of a cycle by its direction and byte enables (R18). -/
def cycleKind (isWrite : Bool) (enables : BitVec 4) (data : DataWord) : CycleKind :=
  if isWrite then
    if enables = 0xF#4 then .fullWrite data
    else if enables = 0x0#4 then .nullWrite data
    else .partialWrite data
  else .read

/-- The direction of a kind: read for READ, write for any write kind (R20). -/
def CycleKind.direction : CycleKind → Direction
  | .read => .read
  | _ => .write

/-- The write data of a PARTIAL WRITE. -/
def CycleKind.partialData : CycleKind → Option DataWord
  | .partialWrite data => some data
  | _ => none

/-- The host line of a host word address (2.2). -/
def hostLine (address : HostAddress) : Nat := address.toNat / 8

/-- The word index of a host word address (2.2). -/
def hostIndex (address : HostAddress) : Nat := address.toNat % 8

/-- The physical word of a host word address by the map as it stands (R19, R21). -/
def State.hostWord (s : State) (address : HostAddress) : Nat :=
  wordAt (s.translate (hostLine address)) (hostIndex address)

/-- What the admission tests say of a cycle (R19). -/
inductive Admission where
  /-- Refused with this reason; the physical word, where the cycle was translated first. -/
  | refused (reason : RefusalReason) (word : Option Nat)
  /-- Admitted, with its physical word. -/
  | admitted (word : Nat)
  deriving DecidableEq, Repr

/-- The tests of R19, steps 1 to 4, in their order. -/
def State.admission (s : State) (address : HostAddress) : Admission :=
  if s.mode = .uninit then .refused .notReady none
  else if s.poolBase ≤ hostLine address then .refused .range none
  else if s.mode = .sweeping ∧ s.sweepLine ≤ s.translate (hostLine address) then
    .refused .notReady (some (s.hostWord address))
  else .admitted (s.hostWord address)

/-- The cycle record captured at a strobe, with all three pass-over flags clear (R14, R24). -/
def newRecord (address : HostAddress) (isWrite : Bool) (enables : BitVec 4) (data : DataWord) : CycleRecord :=
  { address := address
    kind := cycleKind isWrite enables data
    enables := enables
    writeBackPass := false
    patrolPass := false
    starvationPass := false
    grantedInQuiet := false
    word := none
    outcome := none }

end Sys2Proof.Machine
end

