-- ==== Sys2Proof/Machine/HostPort.lean ====
section
/-! DEFINITION. The Host Port Controller's response and refusal (02_host_cycles.md). -/

namespace Sys2Proof.Machine

/-- Whether an outcome is the error response (R36). -/
def HostOutcome.isError : HostOutcome → Bool
  | .okay => false
  | .refused _ | .uncorrectable _ => true

/-- The response: HRDY is asserted, with HERR for an error and HD driven for a read, and the controller enters
RESPONDING; if HSTB is already deasserted, the response is withdrawn and the controller returns to IDLE at once
(R15). HSTB once deasserted counts as deasserted, whatever assertion has followed that was no strobe (R16; assumption
24). -/
def State.respond (s : State) (outcome : HostOutcome) (hd : Option DataWord) : State :=
  if s.strobeHeld then
    { s with
      host :=
        { state := .responding
          record := s.host.record.map fun r => { r with outcome := some outcome }
          hrdy := true
          herr := outcome.isError
          hd := hd } }
  else { s with host := HostPort.none }

/-- A cycle refused without a memory access: the report, and the error response with HD driven with zero for a READ; its
pass-over flags are cleared (R20, R22, R37). -/
def State.refuseCycle (s : State) (r : CycleRecord) (reason : RefusalReason) : State :=
  let cleared := { r with writeBackPass := false, patrolPass := false, starvationPass := false }
  let t := { s with host := { s.host with record := some cleared } }
  let t := t.append (.hostRefused r.address r.kind.direction reason)
  t.respond (.refused reason) (if r.kind = .read then some 0#32 else none)

/-- The controller's part of a warm reset: ABANDONED, with no record, HRDY and HERR deasserted and HD released
(R39). -/
def HostPort.abandon : HostPort := { HostPort.none with state := .abandoned }

end Sys2Proof.Machine
end

