-- ==== Sys2Proof/Machine/PatrolScrubber.lean ====
section
/-! DEFINITION. The Patrol Scrubber's cursor walk (05_the_patrol_scrubber.md). -/

namespace Sys2Proof.Machine

/-- The search of R79: from a line to the next physical line, on again past lines that are not of record, with whether
it moved from line MEMORY_LINES - 1 to line 0. It looks at as many lines as the array has: "a search forward from any
line always finds one within one walk of the array" (R78). -/
def State.searchLine (s : State) : Nat → Nat → Bool → Nat × Bool
  | 0, line, wrapped => (line, wrapped)
  | fuel + 1, line, wrapped =>
    let next := if line + 1 < s.memoryLines then line + 1 else 0
    let wraps := wrapped || !decide (line + 1 < s.memoryLines)
    if s.ofRecord next then (next, wraps) else s.searchLine fuel next wraps

/-- A pass end: the pass number increases by 1 and is handed to the Line Health Table, which ages its entries (R84). -/
def State.passEnd (s : State) : State :=
  let pass := s.patrol.pass + 1
  let t : State := { s with patrol := { s.patrol with pass := pass } }
  t.ageHealth pass

/-- The cursor moved to word index 0 of the next line of record (R79). -/
def State.nextLine (s : State) : State :=
  let found := s.searchLine s.memoryLines s.patrol.line false
  let t := { s with patrol := { s.patrol with line := found.1, index := 0 } }
  if found.2 then t.passEnd else t

/-- The cursor's advance at the completion of a patrol step's last access (R79). -/
def State.advancePatrol (s : State) : State :=
  if s.patrol.index < 7 then { s with patrol := { s.patrol with index := s.patrol.index + 1 } } else s.nextLine

/-- The cursor checked against the map at a grant (R80). -/
def State.checkPatrolLine (s : State) : State :=
  if s.ofRecord s.patrol.line then s else s.nextLine

/-- The timer and debt set to 0: QUIESCE (R86), entry into NORMAL (R85) and a warm reset (R91). -/
def State.restPatrol (s : State) : State :=
  { s with patrol := { s.patrol with debt := 0, timer := 0 } }

/-- Entry into NORMAL: the timer and debt start from 0 (R85, R163, R165, R170). -/
def State.enterNormal (s : State) : State :=
  let t : State := { s with mode := .normal }
  t.restPatrol

end Sys2Proof.Machine
end

