-- ==== Sys2Proof/Machine/ModeControl.lean ====
section
/-! DEFINITION. What the Mode Controller and the resets do to the whole part (09_operating_modes_and_the_initialization_sweep.md):
the entry into QUIET, the warm reset and the cold reset. -/

namespace Sys2Proof.Machine

/-- In QUIESCING, with the quiesce conditions met, the mode becomes QUIET and QUIET_REACHED is appended (R167). -/
def State.quietCheck (s : State) : State :=
  if s.mode = .quiescing ∧ s.quiesceConditions = true then
    let t : State := { s with mode := .quiet }
    t.append .quietReached
  else s

/-- The mode after a warm reset (R171). -/
def Mode.afterWarmReset : Mode → Mode
  | .uninit | .sweeping => .uninit
  | .normal => .normal
  | .quiescing | .quiet => .quiet

/-- The engine's part of a warm reset: the copy is aborted without a report, and the queue is emptied (R155). -/
def State.dropMigrations (s : State) : State :=
  let t := match s.copy with
    | some c => s.dropCopy c
    | none => s
  { t with migrations := [] }

/-- The access in progress of a grant that no warm reset has abandoned, or the one that is to begin next in its gap. -/
def State.liveAccess (s : State) : Option Access :=
  if s.port.abandoned then none else s.port.access

/-- Whether the access that the port holds has begun when a reset meets it. One that had not begun at the last event may have
begun since, and a free value says whether it has (R40, R145; assumption 21). -/
def State.accessBegun (s : State) : Bool := !s.port.gap || Config.laterAccessBegun s.freeIndex

/-- The count of free values used, after a reset (assumption 21). -/
def State.freeIndexAfterReset (s : State) : Nat := if s.port.gap then s.freeIndex + 1 else s.freeIndex

/-- The port as a warm reset leaves it. A grant whose access is in progress keeps the port until that access completes
(R59). One whose next access has not begun begins none (R40), and with no access to wait for the port is FREE at once
(assumption 21). -/
def State.portAfterWarmReset (s : State) : MemoryPort :=
  if s.port.holder = .free then s.port
  else if s.accessBegun then { s.port with gap := false, abandoned := true }
  else MemoryPort.free

/-- The warm reset's effect on every block but the Report Queue (R39, R40, R59, R72, R91, R112, R155, R171). -/
def State.warmBlocks (s : State) : State :=
  let t := s.dropMigrations.healthWarmReset.restPatrol
  { t with
    strobeHeld := false
    host := HostPort.abandon
    port := s.portAfterWarmReset
    freeIndex := s.freeIndexAfterReset
    starvation := 0
    writeBacks := []
    mode := s.mode.afterWarmReset }

/-- A warm reset: its effect on the blocks, then the WARM_RESET report with the fields of this moment (R185), and in
QUIESCING the QUIET_REACHED report after it (R171, R179). -/
def State.warmReset (s : State) : State :=
  let t := s.warmBlocks.append
    (.warmReset s.mode s.writeBacks.length (s.copy.map Copy.home))
  if s.mode = .quiescing then t.append .quietReached else t

/-- The word that an access addresses. -/
def Access.word : Access → Nat
  | .hostRead a | .inlineWriteBack a _ | .mergeRead a | .hostWrite a _ | .targetWrite a _ | .drainWrite a _
  | .patrolRead a | .patrolWrite a _ | .copyRead a | .copyWrite a _ _ | .sweepWrite a _ => a

/-- The 39 bits that an access writes; none for a read. -/
def Access.stored : Access → Option StoredWord
  | .hostRead _ | .mergeRead _ | .patrolRead _ | .copyRead _ => none
  | .inlineWriteBack _ w | .hostWrite _ w | .targetWrite _ w | .drainWrite _ w | .patrolWrite _ w
  | .copyWrite _ w _ | .sweepWrite _ w => some w

/-- The array after a cold reset: the word that an access in progress addressed holds no defined contents (R42, R58). An
access that has not begun is not in progress (assumption 21). -/
def State.cellsAfterColdReset (s : State) : List (Nat × StoredWord) :=
  match s.port.access with
  | some a => if s.accessBegun then dropCell s.cells a.word else s.cells
  | none => s.cells

/-- A cold reset: every block takes its cold reset values; the levels of the input lines and the array stay, and no
report is appended (R42, R58, R73, R92, R113, R131, R156, R173, R186, R204). -/
def State.coldReset (s : State) : State :=
  { State.reset with
    hstb := s.hstb
    hreset := s.hreset
    poreset := s.poreset
    mcs := s.mcs
    cells := s.cellsAfterColdReset
    freeIndex := s.freeIndexAfterReset
    pending := s.pending }

end Sys2Proof.Machine
end

