-- ==== Sys2Proof/Machine/Arbiter.lean ====
section
/-! DEFINITION. The Memory Port Arbiter (03_the_memory_port_arbiter.md).

A decision is made at the event that frees the port, or at which a requester becomes present to a FREE port (R48), and
the grant is made at that same instant. The opcode table lists the decision within that event and the grant as a step of
its own (95_what_each_step_holds.md). So the event leaves the decision in `award`, and the grant is carried out either by
its own command, or before anything else at whatever command comes next: `State.settled` (assumption 6). One command is
excepted: a take that is due may come between the completion of a grant and its decision (R53; assumption 10). -/

namespace Sys2Proof.Machine

/-- The decision of R49: the first of the five cases that applies. -/
def State.decision (s : State) : Option Award :=
  if s.drainUrgent && !s.passed CycleRecord.writeBackPass then some ⟨.step .drain, .urgentDrain⟩
  else if s.patrolUrgent && !s.passed CycleRecord.patrolPass then some ⟨.step .patrol, .urgentPatrol⟩
  else if s.starvation == 16 && s.firstStep.isSome && !s.passed CycleRecord.starvationPass then
    s.firstStep.map fun which => ⟨.step which, .starvation⟩
  else if s.hostWaiting then some ⟨.host, .hostWaiting⟩
  else s.firstStep.map fun which => ⟨.step which, .background⟩

/-- The decision made when the port is FREE and none is outstanding (R48). -/
def State.arbitrate (s : State) : State :=
  if s.port.holder = .free ∧ s.award = none then { s with award := s.decision } else s

/-- The flag of a passed-over cycle set for the case of the grant (R50). -/
def CycleRecord.passOver (r : CycleRecord) : GrantCase → CycleRecord
  | .urgentDrain => { r with writeBackPass := true }
  | .urgentPatrol => { r with patrolPass := true }
  | .starvation => { r with starvationPass := true }
  | .hostWaiting | .background => r

/-- A grant's marking of a cycle in WAITING (R50). -/
def State.markPassed (s : State) (c : GrantCase) : State :=
  if s.hostWaiting then
    { s with host := { s.host with record := s.host.record.map fun r => r.passOver c } }
  else s

/-- The port held for a grant whose first access begins (R44, R52). -/
def State.beginAccess (s : State) (holder : PortHolder) (a : Access) : State :=
  { s with port := { holder := holder, access := some a, gap := false, abandoned := false } }

/-- The next access of a step's grant begins, at the completion of the access before it (R45, R82, R139). -/
def State.nextAccess (s : State) (a : Access) : State :=
  { s with port := { s.port with access := some a, gap := false } }

/-- The next access of a host grant (R25, R45). Whether it begins at the very completion of the access before it, or there is
a gap first, is a free value (R40, R145; assumption 21). -/
def State.nextHostAccess (s : State) (a : Access) : State :=
  { s with
    port := { s.port with access := some a, gap := !Config.laterAccessBegun s.freeIndex }
    freeIndex := s.freeIndex + 1 }

/-- What time does while no command waits: a host grant's next access that has not begun begins (R43; assumption 21). -/
def State.whileIdle (s : State) : State := { s with port := { s.port with gap := false } }

/-- The first access of a host grant by the kind of the cycle; a NULL WRITE never waits for the port (R23, R25). -/
def CycleKind.firstAccess (word : Nat) : CycleKind → Option Access
  | .read => some (.hostRead word)
  | .fullWrite data => some (.hostWrite word (encode data))
  | .partialWrite _ => some (.mergeRead word)
  | .nullWrite _ => none

/-- The cycle record at its HOST grant: the three pass-over flags are clear and the address is translated again
(R21, R24, R52). -/
def State.grantedRecord (s : State) (r : CycleRecord) : CycleRecord :=
  { r with
    writeBackPass := false
    patrolPass := false
    starvationPass := false
    grantedInQuiet := s.mode == .quiet
    word := some (s.hostWord r.address) }

/-- The HOST grant (R21, R24, R51, R52). -/
def State.grantHost (s : State) : State :=
  let t : State := { s with award := none, decisionOpen := false }
  match s.host.record with
  | none => t
  | some r =>
    match r.kind.firstAccess (s.hostWord r.address) with
    | none => t
    | some a =>
      let t : State := { t with
        starvation := min 16 (s.starvation + 1)
        host := { s.host with state := .accessing, record := some (s.grantedRecord r) } }
      t.beginAccess .host a

/-- What every grant to an internal requester does: the flag of a passed-over cycle (R50), and the starvation counter
set to 0 (R51). -/
def State.grantStep (s : State) (c : GrantCase) : State :=
  let t := s.markPassed c
  { t with award := none, decisionOpen := false, starvation := 0 }

/-- The grant of W: the head entry's encoded data is written to its word (R65). -/
def State.grantDrain (s : State) (c : GrantCase) : State :=
  match s.writeBacks with
  | [] => s.grantStep c
  | w :: _ => (s.grantStep c).beginAccess (.step .drain) (.drainWrite w.word (encode w.data))

/-- The grant of P: debt falls by 1, the cursor is checked against the map, and the read begins (R80). -/
def State.grantPatrol (s : State) (c : GrantCase) : State :=
  let t := s.grantStep c
  let t := ({ t with patrol := { t.patrol with debt := t.patrol.debt - 1 } } : State).checkPatrolLine
  t.beginAccess (.step .patrol) (.patrolRead (wordAt t.patrol.line t.patrol.index))

/-- The grant of M: the read of the source word at the copy cursor begins (R139). -/
def State.grantCopy (s : State) (g : GrantCase) : State :=
  match s.copy with
  | none => s.grantStep g
  | some c => (s.grantStep g).beginAccess (.step .copy) (.copyRead (wordAt c.sourceLine c.cursor))

/-- The grant of S: 39 zero bits are written at the sweep cursor (R162). -/
def State.grantSweep (s : State) (c : GrantCase) : State :=
  (s.grantStep c).beginAccess (.step .sweep) (.sweepWrite (wordAt s.sweepLine s.sweepIndex) 0#39)

/-- The grant that a decision names (R52). -/
def State.grant (s : State) (a : Award) : State :=
  match a.grantee with
  | .host => s.grantHost
  | .step .drain => s.grantDrain a.byCase
  | .step .patrol => s.grantPatrol a.byCase
  | .step .copy => s.grantCopy a.byCase
  | .step .sweep => s.grantSweep a.byCase

/-- The state that an event meets: the grant of an outstanding decision has been made (R48; assumption 6). -/
def State.settled (s : State) : State :=
  match s.award with
  | some a => s.grant a
  | none => s

/-- The port becomes FREE and the decision of R48 is made (R53). A decision so made stands open to a take that is due
(assumption 10). -/
def State.release (s : State) : State :=
  { s with port := MemoryPort.free, award := s.decision, decisionOpen := s.decision.isSome }

/-- An abort pending at the end of a grant is made (R149). -/
def State.resolveAbort (s : State) : State :=
  match s.copy with
  | some c => if c.abortPending then s.cancelCopy c else s
  | none => s

/-- The completion of a grant's last access, after the holder's own actions: a pending abort is made, the quiesce
conditions are looked at, and the port is released (R53, R149, R167). -/
def State.endGrant (s : State) : State := s.resolveAbort.quietCheck.release

/-- The host cycle ends with its grant: the response is given (R25, R53). -/
def State.finishHost (s : State) (outcome : HostOutcome) (hd : Option DataWord) : State :=
  (s.respond outcome hd).endGrant

end Sys2Proof.Machine
end

