-- ==== Sys2Proof/Machine/GrantCommands.lean ====
section
/-! DEFINITION. The meanings of the grants (R52): the grant that the arbiter's decision names is carried out. A command
that names a grant which the arbiter has not decided does not take place (assumption 7). -/

namespace Sys2Proof.Machine

/-- Whether the outstanding decision is for this requester. -/
def State.awardedTo (s : State) (r : Requester) : Bool := s.award.any fun a => a.grantee == r

/-- HOST_GRANT (R21, R24, R51, R52). -/
def execHostGrant (s : State) : Host.Outcome State Fault Refusal :=
  .next (if s.awardedTo .host then s.settled else s)

/-- DRAIN_GRANT (R51, R65). -/
def execDrainGrant (s : State) : Host.Outcome State Fault Refusal :=
  .next (if s.awardedTo (.step .drain) then s.settled else s)

/-- PATROL_GRANT (R51, R80). -/
def execPatrolGrant (s : State) : Host.Outcome State Fault Refusal :=
  .next (if s.awardedTo (.step .patrol) then s.settled else s)

/-- COPY_GRANT (R51, R139). -/
def execCopyGrant (s : State) : Host.Outcome State Fault Refusal :=
  .next (if s.awardedTo (.step .copy) then s.settled else s)

/-- SWEEP_GRANT (R51, R162). -/
def execSweepGrant (s : State) : Host.Outcome State Fault Refusal :=
  .next (if s.awardedTo (.step .sweep) then s.settled else s)

end Sys2Proof.Machine
end

