-- ==== Sys2Proof/Machine/HealthEvents.lean ====
section
/-! DEFINITION. What the Line Health Table does at a health event (R95 to R103): it records the event, and it may ask
the Migration Engine for a migration. The reports it appends are answered beside the state, because the manual gives
them no order against the reading block's own report (R103); see `State.appendForRead`. -/

namespace Sys2Proof.Machine

/-- The recording of an event: an update (R96), a new entry (R97, R98) or none (R99), with the report appended. -/
def State.recordHealth (s : State) (ev : HealthEvent) : State × List Report :=
  match s.healthEntry ev.line with
  | some _ => (s.updateHealth ev.line fun e => e.recordEvent ev s.patrol.pass, [])
  | none =>
    match s.placeForNew with
    | some p =>
      ({ s with health := s.health.set p (some (ev.newEntry s.patrol.pass)) },
        if ev.cls.corrected then [.newWeakLine ev.line ev.index (ev.cls == .singleCheck) ev.source] else [])
    | none => (s, [.healthFull ev.line])

/-- The first condition of a request: the entry exists, is in WATCH, and its corrected count is MIGRATE_THRESHOLD or
more (R100). -/
def State.thresholdMet (s : State) (line : Nat) : Bool :=
  (s.healthEntry line).any fun e => e.state == .watch && decide (s.settings.migrateThreshold ≤ e.count)

/-- The second condition of a request: the event is uncorrectable, MIGRATE_ON_UNCORRECTABLE is on, and the entry is in
WATCH or absent (R100). -/
def State.uncorrectableMet (s : State) (ev : HealthEvent) : Bool :=
  !ev.cls.corrected && s.settings.migrateOnUncorrectable &&
    (s.healthEntry ev.line).all fun e => e.state == .watch

/-- The home line and the reason that a request for a line carries (R100). Every event names a line of record (R95),
so a line in the pool is the spare of an ACTIVE slot. -/
def State.requestFor (s : State) (ev : HealthEvent) : Option (Nat × Reason) :=
  if ev.line < s.poolBase then
    some (ev.line, if s.uncorrectableMet ev then .uncorrectable else .threshold)
  else (s.homeOfSpare ev.line).map fun home => (home, .spareFault)

/-- The table's response to a queue-full answer (R101, R102). -/
def State.deferRequest (s : State) (line home : Nat) : State × List Report :=
  match s.healthEntry line with
  | some e =>
    if e.deferred then (s, [])
    else (s.updateHealth line fun e => { e with deferred := true }, [.migrationDeferred home])
  | none => (s, [.migrationDeferred home])

/-- A migration request handed to the engine, and the table's response to the answer (R100, R101). -/
def State.requestMigration (s : State) (line home : Nat) (reason : Reason) : State × List Report :=
  match s.intakeAnswer home with
  | .accepted =>
    ((s.intake home reason).updateHealth line fun e => { e with state := .queued, deferred := false }, [])
  | .duplicate => (s, [])
  | .queueFull => s.deferRequest line home

/-- The migration request test after an event (R100). -/
def State.requestTest (s : State) (ev : HealthEvent) : State × List Report :=
  if s.thresholdMet ev.line || s.uncorrectableMet ev then
    match s.requestFor ev with
    | some (home, reason) => s.requestMigration ev.line home reason
    | none => (s, [])
  else (s, [])

/-- A health event: the state after it, and the reports the table appends, in their order (R103). -/
def State.healthEvent (s : State) (ev : HealthEvent) : State × List Report :=
  let recorded := s.recordHealth ev
  let requested := recorded.1.requestTest ev
  (requested.1, recorded.2 ++ requested.2)

/-- The event of a read that decoded as an error (R27, R29, R32, R33, R81). -/
def eventOfRead (word : Nat) (cls : ErrorClass) (source : EventSource) : HealthEvent :=
  { line := lineOf word, index := indexOf word, cls := cls, source := source }

/-- A corrected read's health event: the table's reports are the only ones (R27, R32, R81). -/
def State.correctedRead (s : State) (word : Nat) (cls : ErrorClass) (source : EventSource) : State :=
  let handled := s.healthEvent (eventOfRead word cls source)
  handled.1.appendAll handled.2

/-- An uncorrectable read's report and health event (R29, R33, R81). -/
def State.uncorrectableRead (s : State) (own : Report) (word : Nat) (cls : ErrorClass) (source : EventSource) :
    State :=
  let handled := s.healthEvent (eventOfRead word cls source)
  handled.1.appendForRead own handled.2

end Sys2Proof.Machine
end

