-- ==== Sys2Proof/Machine/WriteBackQueue.lean ====
section
/-! DEFINITION. The Write-Back Queue (04_the_write_back_queue.md): joining and supersession. -/

namespace Sys2Proof.Machine

/-- A write-back request: appended at the tail, unless an entry already holds the word (R62, R63). A request never finds
the queue holding 8 entries (R64). An entry made in SWEEPING can name a word not yet swept in one corner (assumption 25). -/
def State.requestWriteBack (s : State) (word : Nat) (data : DataWord) : State :=
  if s.writeBacks.any fun w => w.word == word then s
  else { s with writeBacks := s.writeBacks ++ [{ word := word, data := data }] }

/-- A write made known to the queue: the entry for the word written is removed (R67). -/
def State.supersede (s : State) (word : Nat) : State :=
  { s with writeBacks := s.writeBacks.filter fun w => w.word != word }

end Sys2Proof.Machine
end

