-- ==== Sys2Proof/Machine/HostCommands.lean ====
section
/-! DEFINITION. The meanings of the host bus's commands: the strobe and its withdrawal, and the completions of a host
grant's accesses (02_host_cycles.md). A completion that names an access which is not in progress does not take place,
and changes nothing (assumption 7). -/

namespace Sys2Proof.Machine

/-- An assertion of HSTB on the settled state: a strobe only while the controller is IDLE with HRESET and PORESET
deasserted (R14, R16, R42); the tests of R19 in order. -/
def State.strobe (s : State) (r : CycleRecord) : State :=
  match s.admission r.address with
  | .refused reason word => s.refuseCycle { r with word := word } reason
  | .admitted word =>
    let t : State := { s with host := { s.host with record := some { r with word := some word } } }
    match r.kind with
    | .nullWrite _ => t.respond .okay none
    | _ =>
      let t : State := { t with host := { t.host with state := .waiting } }
      t.arbitrate

/-- Whether an assertion of HSTB is a strobe (R14, R42). -/
def State.takesStrobe (s : State) : Bool :=
  !s.hstb && s.host.state == .idle && !s.hreset && !s.poreset

/-- HOST_STROBE (R14 to R20, R23, R24, R56). An assertion that is no strobe leaves the line asserted, which a controller that
becomes IDLE finds (R14), and changes nothing else: the response of a cycle in flight does not find it (R16; assumption
24). -/
def execHostStrobe (address : HostAddress) (isWrite : Bool) (enables : BitVec 4) (data : DataWord) (s : State) :
    Host.Outcome State Fault Refusal :=
  let p := s.settled
  .next <|
    if p.takesStrobe then
      let t : State := { p with hstb := true, strobeHeld := true }
      t.strobe (newRecord address isWrite enables data)
    else { p with hstb := true }

/-- HSTB_DEASSERT: a response that is being given is withdrawn, and the controller returns to IDLE (R15); a cycle in
flight continues, and its response will find HSTB deasserted (R15, R16). -/
def execHstbDeassert (s : State) : Host.Outcome State Fault Refusal :=
  let p := s.settled
  let t : State := { p with hstb := false, strobeHeld := false }
  .next (if p.host.state = .responding then { t with host := HostPort.none } else t)

/-- Whether a corrected READ writes its repair back inline: the mode is QUIET when the read completes, or the READ was
granted in QUIET and START_SWEEP has executed since (R28, R38; assumption 13). A READ granted in NORMAL or QUIESCING whose read
completes after QUIET has been reached and START_SWEEP has executed queues its write-back, which is the model's choice (R22,
R38, R62; assumption 25). -/
def State.repairsInline (s : State) (r : CycleRecord) : Bool :=
  s.mode == .quiet || (r.grantedInQuiet && s.mode == .sweeping)

/-- A READ whose word decoded as an error (R27 to R29). -/
def State.hostReadError (s : State) (r : CycleRecord) (word : Nat) (d : Decoded) (cls : ErrorClass) : State :=
  if cls.corrected then
    if s.repairsInline r then
      (s.correctedRead word cls .host).nextHostAccess (.inlineWriteBack word d.repaired)
    else
      ((s.requestWriteBack word d.data).correctedRead word cls .host).finishHost .okay (some d.data)
  else
    (s.uncorrectableRead (.uncorrectable word (cls == .multi) .host) word cls .host).finishHost
      (.uncorrectable cls) (some d.data)

/-- A host READ's word decoded and acted on by class (R26). -/
def State.hostReadDecoded (s : State) (r : CycleRecord) (word : Nat) (d : Decoded) : State :=
  match d.cls.error with
  | some cls => s.hostReadError r word d cls
  | none =>
    if d.cls = .poisoned then
      (s.append (.hostRefused r.address .read .poisoned)).finishHost (.refused .poisoned) (some d.data)
    else s.finishHost .okay (some d.data)

/-- HOST_READ_COMPLETE (R26 to R30). -/
def execHostReadComplete (changed : StoredWord) (s : State) : Host.Outcome State Fault Refusal :=
  let p := s.settled
  .next <|
    match p.liveAccess, p.host.record with
    | some (.hostRead word), some r =>
      let found := p.readCells word changed
      found.2.hostReadDecoded r word (decode found.1)
    | _, _ => p

/-- INLINE_WRITE_BACK_COMPLETE: the repaired word's data is the decoded data (R7, R28, R34, R37). -/
def execInlineWriteBackComplete (s : State) : Host.Outcome State Fault Refusal :=
  let p := s.settled
  .next <|
    match p.liveAccess with
    | some (.inlineWriteBack word stored) =>
      ((p.writeCell word stored).supersede word).finishHost .okay (some (storedData stored))
    | _ => p

/-- A refused merge: HERR, with MERGE_REFUSED, and for DOUBLE or MULTI a health event (R33). -/
def State.refuseMerge (s : State) (r : CycleRecord) (word : Nat) (error : Option ErrorClass) : State :=
  let own : Report := .hostRefused r.address .write .mergeRefused
  let t := match error with
    | some cls => s.uncorrectableRead own word cls .host
    | none => s.append own
  t.finishHost (.refused .mergeRefused) none

/-- The merge made: the health event of a corrected read, and the write of the merged word, next in the grant (R32). -/
def State.makeMerge (s : State) (word : Nat) (error : Option ErrorClass) (merged : DataWord) : State :=
  let t := match error with
    | some cls => s.correctedRead word cls .host
    | none => s
  t.nextHostAccess (.hostWrite word (encode merged))

/-- A PARTIAL WRITE's word decoded: the merge is made, or refused when the flag is set (R32, R33). -/
def State.mergeDecoded (s : State) (r : CycleRecord) (data : DataWord) (word : Nat) (d : Decoded) : State :=
  if d.flag then s.refuseMerge r word d.cls.error
  else s.makeMerge word d.cls.error (mergeLanes r.enables d.data data)

/-- PARTIAL_WRITE_READ_COMPLETE (R32, R33, R145). -/
def execPartialWriteReadComplete (changed : StoredWord) (s : State) : Host.Outcome State Fault Refusal :=
  let p := s.settled
  .next <|
    match p.liveAccess, p.host.record with
    | some (.mergeRead word), some r =>
      match r.kind.partialData with
      | some data =>
        let found := p.readCells word changed
        found.2.mergeDecoded r data word (decode found.1)
      | none => p
    | _, _ => p

/-- The word of the copy target that a write to a source word is doubled to: where the word lies in the source line of
the copy in flight, at an index below the cursor (R144). -/
def State.doubledTo (s : State) (word : Nat) : Option Nat :=
  match s.copy with
  | some c =>
    if lineOf word = c.sourceLine ∧ indexOf word < c.cursor then
      some (wordAt (s.poolBase + c.target) (indexOf word))
    else none
  | none => none

/-- HOST_WRITE_COMPLETE: the write supersedes any entry for its word (R34, R67); the second write to the copy target is
next where R144 requires it, and otherwise the response is given (R31, R32). -/
def execHostWriteComplete (s : State) : Host.Outcome State Fault Refusal :=
  let p := s.settled
  .next <|
    match p.liveAccess with
    | some (.hostWrite word stored) =>
      let t := (p.writeCell word stored).supersede word
      match p.doubledTo word with
      | some target => t.nextHostAccess (.targetWrite target stored)
      | none => t.finishHost .okay none
    | _ => p

/-- TARGET_WRITE_COMPLETE: the second write is not made known to the Write-Back Queue (R67, R144). -/
def execTargetWriteComplete (s : State) : Host.Outcome State Fault Refusal :=
  let p := s.settled
  .next <|
    match p.liveAccess with
    | some (.targetWrite word stored) => (p.writeCell word stored).finishHost .okay none
    | _ => p

/-- The array at the completion of an abandoned access: a write is held, and a read's decode is discarded (R40,
R59). -/
def State.completeAbandoned (s : State) : State :=
  match s.port.access with
  | some a =>
    match a.stored with
    | some stored => s.writeCell a.word stored
    | none => s
  | none => s

/-- ABANDONED_ACCESS_COMPLETE: the port becomes FREE (R40, R59, R91, R155, R172). -/
def execAbandonedAccessComplete (s : State) : Host.Outcome State Fault Refusal :=
  let p := s.settled
  .next (if p.port.abandoned then p.completeAbandoned.endGrant else p)

end Sys2Proof.Machine
end

