-- ==== Sys2Proof/Machine/Codes.lean ====
section
/-! DEFINITION. The byte values of the management commands, the counts of their argument bytes, and the status codes
(R190; 12_formats.md, 12.3). -/

namespace Sys2Proof.Machine

/-- The byte value of each command (12_formats.md, 12.3). -/
def commandCode : Command → Byte
  | .identify => 0x01#8
  | .readStatus => 0x02#8
  | .readSetting => 0x03#8
  | .writeSetting => 0x04#8
  | .readSlot => 0x05#8
  | .readHealth => 0x06#8
  | .readMigration => 0x07#8
  | .peekReport => 0x08#8
  | .popReport => 0x09#8
  | .mapPreset => 0x10#8
  | .unmapSlot => 0x11#8
  | .migrate => 0x12#8
  | .cancel => 0x13#8
  | .clearHealth => 0x14#8
  | .startSweep => 0x20#8
  | .adopt => 0x21#8
  | .quiesce => 0x22#8
  | .resume => 0x23#8
  | .resetCold => 0x3C#8

/-- Every command, in the order of 12_formats.md. -/
def allCommands : List Command :=
  [.identify, .readStatus, .readSetting, .writeSetting, .readSlot, .readHealth, .readMigration,
    .peekReport, .popReport, .mapPreset, .unmapSlot, .migrate, .cancel, .clearHealth,
    .startSweep, .adopt, .quiesce, .resume, .resetCold]

/-- The command that a command byte names, if it names one (R190). -/
def commandNamed (code : Byte) : Option Command :=
  allCommands.find? fun c => commandCode c == code

/-- How many argument bytes follow the command byte (R190). -/
def argumentCount : Command → Nat
  | .writeSetting | .mapPreset | .migrate | .cancel => 3
  | .readSetting | .readSlot | .readHealth | .readMigration | .unmapSlot => 1
  | _ => 0

/-- How many argument bytes follow a command byte; a byte that names no command takes none (R190). -/
def argumentsAfter (code : Byte) : Nat :=
  match commandNamed code with
  | some c => argumentCount c
  | none => 0

/-- The status of a management command's answer (12_formats.md, 12.3). -/
inductive Status where
  | ok | unknownCommand | badArgument | wrongMode | queueFull | duplicate | notFound | empty | poolEmpty
  deriving DecidableEq, Repr

/-- The status byte (12_formats.md, 12.3). No status is 00h (R206). -/
def statusCode : Status → Byte
  | .ok => 0x01#8
  | .unknownCommand => 0x02#8
  | .badArgument => 0x03#8
  | .wrongMode => 0x04#8
  | .queueFull => 0x05#8
  | .duplicate => 0x06#8
  | .notFound => 0x07#8
  | .empty => 0x08#8
  | .poolEmpty => 0x09#8

/-- The low `n` bytes of a number, most significant byte first (R206). -/
def bigEndian : Nat → Nat → List Byte
  | 0, _ => []
  | n + 1, v => BitVec.ofNat 8 (v / 256 ^ n) :: bigEndian n v

/-- The number that bytes spell, most significant byte first (R206). -/
def fromBytes (bytes : List Byte) : Nat :=
  bytes.foldl (fun acc b => acc * 256 + b.toNat) 0

/-- The padding byte (R206). -/
def paddingByte : Byte := 0x00#8

/-- `n` padding bytes: the data of an answer that carries none (R191). -/
def padding (n : Nat) : List Byte := List.replicate n paddingByte

end Sys2Proof.Machine
end

