-- ==== Sys2Proof/Machine/Formats.lean ====
section
/-! DEFINITION. The layouts of the records that the management port returns (12_formats.md). A field that is absent
from a record that exists reads as FFh in each of its bytes, and a record that does not exist is all 00h (R208). -/

namespace Sys2Proof.Machine

/-- An absent field of `n` bytes (R208). -/
def absentField (n : Nat) : List Byte := List.replicate n 0xFF#8

/-- The mode codes (12.3). -/
def Mode.code : Mode → Nat
  | .uninit => 0
  | .sweeping => 1
  | .normal => 2
  | .quiescing => 3
  | .quiet => 4

/-- The reason codes (12.3). -/
def Reason.code : Reason → Nat
  | .threshold => 2
  | .uncorrectable => 3
  | .spareFault => 4
  | .command => 5

/-- The origin codes (12.3). -/
def Origin.code : Origin → Nat
  | .preset => 1
  | .request r => r.code

/-- The health entry state codes (12.3). -/
def HealthState.code : HealthState → Nat
  | .watch => 1
  | .queued => 2
  | .moving => 3
  | .unrepairable => 4

/-- The class codes (12.3). -/
def ErrorClass.code : ErrorClass → Nat
  | .singleData => 1
  | .singleCheck => 2
  | .double => 3
  | .multi => 4

/-- A flag as a number. -/
def bitOf (b : Bool) : Nat := if b then 1 else 0

/-- The status record, 19 bytes (R195; 12.5). -/
def State.statusRecord (s : State) : List Byte :=
  bigEndian 1 s.mode.code ++ bigEndian 3 s.sweepLine ++ bigEndian 3 s.patrol.line
    ++ bigEndian 1 s.patrol.index ++ bigEndian 2 s.patrol.pass.toNat ++ bigEndian 1 s.patrol.debt
    ++ bigEndian 1 s.writeBacks.length ++ bigEndian 1 s.migrations.length
    ++ (match s.copy with
      | none => bigEndian 1 0 ++ absentField 2
      | some c => bigEndian 1 1 ++ bigEndian 1 c.target ++ bigEndian 1 c.cursor)
    ++ bigEndian 1 s.freeSpares ++ bigEndian 1 s.reports.length ++ bigEndian 1 s.starvation

/-- A slot record, 8 bytes (12.5). -/
def Slot.record : Slot → List Byte
  | .absent => bigEndian 1 0 ++ absentField 7
  | .free => bigEndian 1 1 ++ absentField 7
  | .migrating home origin replaces =>
    bigEndian 1 2 ++ bigEndian 3 home ++ bigEndian 1 origin.code
      ++ (match replaces with
        | some r => bigEndian 1 r
        | none => absentField 1)
      ++ absentField 2
  | .active home origin installed =>
    bigEndian 1 3 ++ bigEndian 3 home ++ bigEndian 1 origin.code ++ absentField 1 ++ bigEndian 2 installed.toNat
  | .retired home origin installed =>
    bigEndian 1 4 ++ bigEndian 3 home ++ bigEndian 1 origin.code ++ absentField 1 ++ bigEndian 2 installed.toNat

/-- Byte 5 of a health entry record (12.5). -/
def HealthEntry.flags (e : HealthEntry) : Nat :=
  bitOf e.uncorrectable + 2 * bitOf e.deferred + 4 * bitOf (e.lastSource == .patrol)

/-- A health entry record, 12 bytes (12.5). -/
def HealthEntry.record (e : HealthEntry) : List Byte :=
  bigEndian 3 e.line ++ bigEndian 1 e.state.code ++ bigEndian 1 e.count ++ bigEndian 1 e.flags
    ++ bigEndian 1 e.lastClass.code ++ bigEndian 1 e.lastIndex ++ bigEndian 2 e.firstPass.toNat
    ++ bigEndian 2 e.lastPass.toNat

/-- The record of a place: the entry's, or the empty-entry record (R111, R208). -/
def placeRecord : Option HealthEntry → List Byte
  | some e => e.record
  | none => padding 12

/-- The migration context, bytes 0 to 13 of a migration record (12.5). -/
def contextRecord : Option Copy → List Byte
  | none => bigEndian 1 0 ++ absentField 13
  | some c =>
    bigEndian 1 1 ++ bigEndian 3 c.home ++ bigEndian 3 c.sourceLine
      ++ (match c.sourceSlot with
        | some r => bigEndian 1 r
        | none => absentField 1)
      ++ bigEndian 1 c.target ++ bigEndian 1 c.cursor ++ bigEndian 1 c.reason.code ++ bigEndian 1 c.carried
      ++ bigEndian 1 c.poisoned ++ bigEndian 1 (bitOf c.abortPending)

/-- The request at a position, bytes 14 to 17, or the empty request record (R157, R208). -/
def requestRecord : Option MigrationRequest → List Byte
  | some r => bigEndian 3 r.home ++ bigEndian 1 r.reason.code
  | none => padding 4

/-- The refusal reason codes of a HOST_REFUSED report (12.6). -/
def RefusalReason.code : RefusalReason → Nat
  | .range => 0
  | .notReady => 1
  | .mergeRefused => 2
  | .poisoned => 3

/-- The source codes of an UNCORRECTABLE report (12.6). -/
def ReadSource.code : ReadSource → Nat
  | .host => 0
  | .patrol => 1
  | .migration => 2

/-- The qualifier Q of a report (12.6). -/
def Report.qualifier : Report → Nat
  | .newWeakLine _ _ isCheck source => bitOf isCheck + 2 * bitOf (source == .patrol)
  | .uncorrectable _ isMulti source => bitOf isMulti + 2 * source.code
  | .hostRefused _ direction reason => bitOf (direction == .write) + 2 * reason.code
  | .migrationDone _ _ _ carried _ => carried
  | .migrationFailed _ reason => bitOf (reason == .cancelled)
  | .warmReset mode _ _ => mode.code
  | .migrationDeferred _ | .healthFull _ | .sweepDone _ | .quietReached | .lost _ => 0

/-- The field F of a report, 24 bits (12.6). -/
def Report.field : Report → Nat
  | .newWeakLine line index _ _ => line * 8 + index
  | .uncorrectable word _ _ => word
  | .hostRefused address _ _ => address.toNat
  | .migrationDone home _ _ _ poisoned => home + poisoned * 2 ^ 19
  | .migrationFailed home _ => home
  | .migrationDeferred home => home
  | .healthFull line => line
  | .sweepDone lines => lines
  | .quietReached => 0
  | .warmReset _ discarded none => discarded
  | .warmReset _ discarded (some home) => discarded + 2 ^ 4 + home * 2 ^ 5
  | .lost count => count

/-- Bytes 2 and 3 of a report record: the pass, or for MIGRATION_DONE the target slot and the source, 7Fh when the
source was the home line itself (R209). -/
def ReportRecord.passField (r : ReportRecord) : List Byte :=
  match r.report with
  | .migrationDone _ target sourceSlot _ _ => bigEndian 1 target ++ bigEndian 1 (sourceSlot.getD 0x7F)
  | _ => bigEndian 2 r.pass.toNat

/-- A report record, 8 bytes (12.6). -/
def ReportRecord.bytes (r : ReportRecord) : List Byte :=
  bigEndian 2 r.sequence.toNat ++ r.passField ++ bigEndian 1 (r.report.code + 16 * r.report.qualifier)
    ++ bigEndian 3 r.report.field

end Sys2Proof.Machine
end

