-- ==== Sys2Proof/Machine/SettingWrites.lean ====
section
/-! DEFINITION. The settings: their values as READ_SETTING returns them, and the write of each with its tests in the order
of R196. A write answers a status and the state after it; a refused write changes nothing. -/

namespace Sys2Proof.Machine

/-- The current value of the setting that an identifier names, as a 2-byte field (R196, R207; 12_formats.md, 12.4). -/
def Settings.value (st : Settings) (identifier : Byte) : Option Nat :=
  if identifier = 0x01#8 then some st.memoryLinesLog2
  else if identifier = 0x02#8 then some st.spareCount
  else if identifier = 0x03#8 then some st.patrolInterval
  else if identifier = 0x04#8 then some st.debtLimit
  else if identifier = 0x05#8 then some st.migrateThreshold
  else if identifier = 0x06#8 then some (if st.migrateOnUncorrectable then 1 else 0)
  else if identifier = 0x07#8 then some st.agePasses
  else if identifier = 0x08#8 then some st.alertMask.toNat
  else none

/-- Whether any ACTIVE slot has a home line at or above a bound (R125, R126). -/
def State.activeHomeFrom (s : State) (bound : Nat) : Bool :=
  s.slots.any fun slot => slot.activeHome.any fun home => decide (bound ≤ home)

/-- An accepted write of MEMORY_LINES_LOG2: the setting; the health entries at or above the new MEMORY_LINES removed
(R126); the sweep cursor set to 0 (R174); the patrol cursor left where it is below the new MEMORY_LINES, and otherwise
set to line 0, word index 0 (R89). -/
def State.setMemoryLinesLog2 (s : State) (k : Nat) : State :=
  let t : State := { s with
    settings := { s.settings with memoryLinesLog2 := k }
    sweepLine := 0
    sweepIndex := 0
    patrol := if s.patrol.line < 2 ^ k then s.patrol else { s.patrol with line := 0, index := 0 } }
  t.removeHealth fun e => decide (2 ^ k ≤ e.line)

/-- A write of MEMORY_LINES_LOG2 (R126). -/
def State.putMemoryLinesLog2 (s : State) (k : Nat) : Status × State :=
  if s.mode ≠ .uninit then (.wrongMode, s)
  else if k < 12 ∨ 19 < k then (.badArgument, s)
  else if 2 ^ k ≤ s.settings.spareCount then (.badArgument, s)
  else if s.activeHomeFrom (2 ^ k - s.settings.spareCount) then (.badArgument, s)
  else (.ok, s.setMemoryLinesLog2 k)

/-- The slot records from number `i` up under a new SPARE_COUNT: those at or above it become ABSENT, and an ABSENT slot
below it becomes FREE (R125). -/
def resizeSlots (n : Nat) : Nat → List Slot → List Slot
  | _, [] => []
  | i, slot :: rest =>
    (if n ≤ i then .absent else if slot = .absent then .free else slot) :: resizeSlots n (i + 1) rest

/-- Whether a slot holds a home or a record that shrinking the pool would drop (R125). -/
def Slot.inUse (slot : Slot) : Bool := slot != .free && slot != .absent

/-- A write of SPARE_COUNT (R125). -/
def State.putSpareCount (s : State) (n : Nat) : Status × State :=
  if s.mode ≠ .uninit then (.wrongMode, s)
  else if 64 < n then (.badArgument, s)
  else if (s.slots.drop n).any Slot.inUse then (.badArgument, s)
  else if s.activeHomeFrom (s.memoryLines - n) then (.badArgument, s)
  else
    (.ok, { s with
      settings := { s.settings with spareCount := n }
      slots := resizeSlots n 0 s.slots })

/-- A write of PATROL_INTERVAL: every 2-byte value lies in its range; the timer restarts from 0 (R87). -/
def State.putPatrolInterval (s : State) (v : Nat) : Status × State :=
  (.ok, { s with
    settings := { s.settings with patrolInterval := v }
    patrol := { s.patrol with timer := 0 } })

/-- A write of DEBT_LIMIT: debt is clamped to the new limit (R88). -/
def State.putDebtLimit (s : State) (v : Nat) : Status × State :=
  if v < 1 ∨ 15 < v then (.badArgument, s)
  else
    (.ok, { s with
      settings := { s.settings with debtLimit := v }
      patrol := { s.patrol with debt := min s.patrol.debt v } })

/-- A write of MIGRATE_THRESHOLD (R110). -/
def State.putMigrateThreshold (s : State) (v : Nat) : Status × State :=
  if v < 1 ∨ 255 < v then (.badArgument, s)
  else (.ok, { s with settings := { s.settings with migrateThreshold := v } })

/-- A write of MIGRATE_ON_UNCORRECTABLE: 0000h is off, 0001h is on, and every other value is reserved (R110, R207). -/
def State.putMigrateOnUncorrectable (s : State) (v : Nat) : Status × State :=
  if 1 < v then (.badArgument, s)
  else (.ok, { s with settings := { s.settings with migrateOnUncorrectable := v == 1 } })

/-- A write of AGE_PASSES (R110). -/
def State.putAgePasses (s : State) (v : Nat) : Status × State :=
  if 255 < v then (.badArgument, s)
  else (.ok, { s with settings := { s.settings with agePasses := v } })

/-- A write of ALERT_MASK: bits 15 to 10 are reserved (R207); ALERT is re-evaluated (R184). -/
def State.putAlertMask (s : State) (v : Nat) : Status × State :=
  if 1023 < v then (.badArgument, s)
  else
    let t : State := { s with settings := { s.settings with alertMask := BitVec.ofNat 10 v } }
    (.ok, t.evaluateAlert)

/-- A write of the setting that an identifier names; an identifier that names none answers BAD_ARGUMENT (R196). -/
def State.putSetting (s : State) (identifier : Byte) (v : Nat) : Status × State :=
  if identifier = 0x01#8 then s.putMemoryLinesLog2 v
  else if identifier = 0x02#8 then s.putSpareCount v
  else if identifier = 0x03#8 then s.putPatrolInterval v
  else if identifier = 0x04#8 then s.putDebtLimit v
  else if identifier = 0x05#8 then s.putMigrateThreshold v
  else if identifier = 0x06#8 then s.putMigrateOnUncorrectable v
  else if identifier = 0x07#8 then s.putAgePasses v
  else if identifier = 0x08#8 then s.putAlertMask v
  else (.badArgument, s)

end Sys2Proof.Machine
end

