-- ==== Sys2Proof/Machine/ManagementPort.lean ====
section
/-! DEFINITION. The Management Port (11_the_management_port.md): what each command does and answers at its execution, and
the frame that carries it. -/

namespace Sys2Proof.Machine

/-- An answer: the status, and the data bytes (R191). -/
structure Reply where
  status : Status
  data : List Byte
  deriving DecidableEq, Repr

/-- The response's bytes: the status byte, then the data bytes (R191). -/
def Reply.bytes (r : Reply) : List Byte := statusCode r.status :: r.data

/-- A refusal: every data byte is the padding byte (R191). -/
def Reply.refusal (status : Status) (dataBytes : Nat) : Reply := { status := status, data := padding dataBytes }

/-- An answer without data bytes. -/
def Reply.plain (status : Status) : Reply := { status := status, data := [] }

/-! ### The commands at their execution -/

/-- A command byte that names no command (R190). -/
def State.runUnknown (s : State) : Reply × State := (.plain .unknownCommand, s)

/-- IDENTIFY (R194). -/
def State.runIdentify (s : State) : Reply × State := ({ status := .ok, data := Config.identification }, s)

/-- READ_STATUS (R195). -/
def State.runReadStatus (s : State) : Reply × State := ({ status := .ok, data := s.statusRecord }, s)

/-- READ_SETTING (R196, R207). -/
def State.runReadSetting (s : State) (identifier : Byte) : Reply × State :=
  match s.settings.value identifier with
  | some v => ({ status := .ok, data := bigEndian 2 v }, s)
  | none => (.refusal .badArgument 2, s)

/-- WRITE_SETTING: the data bytes return the value held after execution, and the padding byte twice when the identifier
names no setting (R196). -/
def State.runWriteSetting (s : State) (identifier : Byte) (value : BitVec 16) : Reply × State :=
  let written := s.putSetting identifier value.toNat
  match written.2.settings.value identifier with
  | some v => ({ status := written.1, data := bigEndian 2 v }, written.2)
  | none => (.refusal written.1 2, written.2)

/-- READ_SLOT (R128, R198). -/
def State.runReadSlot (s : State) (number : Byte) : Reply × State :=
  match s.slots[number.toNat]? with
  | some slot => ({ status := .ok, data := slot.record }, s)
  | none => (.refusal .badArgument 8, s)

/-- READ_HEALTH (R111, R198). -/
def State.runReadHealth (s : State) (place : Byte) : Reply × State :=
  match s.health[place.toNat]? with
  | some entry => ({ status := .ok, data := placeRecord entry }, s)
  | none => (.refusal .badArgument 12, s)

/-- READ_MIGRATION (R157, R198). -/
def State.runReadMigration (s : State) (position : Byte) : Reply × State :=
  if position.toNat < 4 then
    ({ status := .ok, data := contextRecord s.copy ++ requestRecord s.migrations[position.toNat]? }, s)
  else (.refusal .badArgument 18, s)

/-- PEEK_REPORT (R181). -/
def State.runPeekReport (s : State) : Reply × State :=
  match s.reports with
  | r :: _ => ({ status := .ok, data := r.bytes }, s)
  | [] => (.refusal .empty 8, s)

/-- POP_REPORT: ALERT is re-evaluated (R182, R183). -/
def State.runPopReport (s : State) : Reply × State :=
  match s.reports with
  | r :: rest =>
    let t : State := { s with reports := rest }
    ({ status := .ok, data := r.bytes }, t.evaluateAlert)
  | [] => (.refusal .empty 8, s)

/-- MAP_PRESET (R124). -/
def State.runMapPreset (s : State) (line : Nat) : Reply × State :=
  if s.mode ≠ .uninit then (.refusal .wrongMode 1, s)
  else if s.poolBase ≤ line then (.refusal .badArgument 1, s)
  else if (s.activeSlot line).isSome then (.refusal .duplicate 1, s)
  else
    match s.freeSlot with
    | none => (.refusal .poolEmpty 1, s)
    | some slot =>
      ({ status := .ok, data := bigEndian 1 slot }, s.setSlot slot (.active line .preset s.patrol.pass))

/-- UNMAP_SLOT (R124). -/
def State.runUnmapSlot (s : State) (number : Byte) : Reply × State :=
  if s.mode ≠ .uninit then (.plain .wrongMode, s)
  else
    match s.slots[number.toNat]? with
    | none => (.plain .badArgument, s)
    | some slot =>
      if slot.inUse then (.plain .ok, s.setSlot number.toNat .free) else (.plain .notFound, s)

/-- MIGRATE (R134). -/
def State.runMigrate (s : State) (line : Nat) : Reply × State :=
  if s.mode = .uninit ∨ s.mode = .sweeping then (.plain .wrongMode, s)
  else if s.poolBase ≤ line then (.plain .badArgument, s)
  else
    match s.intakeAnswer line with
    | .duplicate => (.plain .duplicate, s)
    | .queueFull => (.plain .queueFull, s)
    | .accepted => (.plain .ok, s.intake line .command)

/-- Whether the port is held by a copy step or by a host grant (R148). -/
def State.portHoldsCopy (s : State) : Bool :=
  s.port.holder == .host || s.port.holder == .step .copy

/-- CANCEL of the copy in flight: pending while a copy step or a host grant holds the port, and otherwise made at once; the
abort may meet the quiesce conditions (R148, R151, R167). -/
def State.cancelInFlight (s : State) (c : Copy) : State :=
  if s.portHoldsCopy then { s with copy := some { c with abortPending := true } }
  else (s.cancelCopy c).quietCheck

/-- CANCEL of a queued home line (R150). -/
def State.cancelQueued (s : State) (line : Nat) : State :=
  let t : State := { s with migrations := s.migrations.filter fun r => r.home != line }
  t.healthUnqueued (s.translate line)

/-- The copy in flight of a home line. -/
def State.copyOf (s : State) (line : Nat) : Option Copy := s.copy.filter fun c => c.home == line

/-- CANCEL (R148). -/
def State.runCancel (s : State) (line : Nat) : Reply × State :=
  if s.poolBase ≤ line then (.plain .badArgument, s)
  else
    match s.copyOf line with
    | some c => (.plain .ok, s.cancelInFlight c)
    | none =>
      if s.migrations.any fun r => r.home == line then (.plain .ok, s.cancelQueued line)
      else (.plain .notFound, s)

/-- CLEAR_HEALTH (R109). -/
def State.runClearHealth (s : State) : Reply × State :=
  (.plain .ok, s.removeHealth fun e => e.state == .watch || e.state == .unrepairable)

/-- A host cycle in WAITING when START_SWEEP executes is refused with NOT_READY (R22). -/
def State.refuseWaiting (s : State) : State :=
  if s.hostWaiting then
    match s.host.record with
    | some r => s.refuseCycle r .notReady
    | none => s
  else s

/-- START_SWEEP (R161). -/
def State.runStartSweep (s : State) : Reply × State :=
  if s.mode = .uninit ∨ s.mode = .quiet then
    let t : State := { s with mode := .sweeping, sweepLine := 0, sweepIndex := 0 }
    (.plain .ok, t.refuseWaiting.arbitrate)
  else (.plain .wrongMode, s)

/-- ADOPT (R165). -/
def State.runAdopt (s : State) : Reply × State :=
  if s.mode = .uninit then (.plain .ok, s.enterNormal) else (.plain .wrongMode, s)

/-- QUIESCE (R86, R166). -/
def State.runQuiesce (s : State) : Reply × State :=
  match s.mode with
  | .normal =>
    let t : State := { s with mode := .quiescing }
    (.plain .ok, t.restPatrol.quietCheck)
  | .quiescing => (.plain .ok, s)
  | .uninit | .sweeping | .quiet => (.plain .wrongMode, s)

/-- RESUME (R170). -/
def State.runResume (s : State) : Reply × State :=
  if s.mode = .quiescing ∨ s.mode = .quiet then (.plain .ok, s.enterNormal) else (.plain .wrongMode, s)

/-- RESET_COLD at the completion of its command byte: the response OK is formed; the cold reset comes at the rise of MCS
(R201). -/
def State.runResetCold (s : State) : Reply × State := (.plain .ok, s)

/-- The argument byte at a position. -/
def argument (args : List Byte) (i : Nat) : Byte := args.getD i 0#8

/-- A command executed with its argument bytes (R190, R191). -/
def State.run (s : State) (command : Command) (args : List Byte) : Reply × State :=
  match command with
  | .identify => s.runIdentify
  | .readStatus => s.runReadStatus
  | .readSetting => s.runReadSetting (argument args 0)
  | .writeSetting => s.runWriteSetting (argument args 0) (BitVec.ofNat 16 (fromBytes (args.drop 1)))
  | .readSlot => s.runReadSlot (argument args 0)
  | .readHealth => s.runReadHealth (argument args 0)
  | .readMigration => s.runReadMigration (argument args 0)
  | .peekReport => s.runPeekReport
  | .popReport => s.runPopReport
  | .mapPreset => s.runMapPreset (fromBytes args)
  | .unmapSlot => s.runUnmapSlot (argument args 0)
  | .migrate => s.runMigrate (fromBytes args)
  | .cancel => s.runCancel (fromBytes args)
  | .clearHealth => s.runClearHealth
  | .startSweep => s.runStartSweep
  | .adopt => s.runAdopt
  | .quiesce => s.runQuiesce
  | .resume => s.runResume
  | .resetCold => s.runResetCold

/-- The command that a command byte names, executed; a byte that names none answers UNKNOWN_COMMAND (R190). -/
def State.runByte (s : State) (code : Byte) (args : List Byte) : Reply × State :=
  match commandNamed code with
  | some c => s.run c args
  | none => s.runUnknown

/-! ### The frame -/

/-- The frame at the fall of MCS: COMMAND, with a bit count of 0 (R189, R192). -/
def Frame.begin : Frame := { Frame.none with state := .command }

/-- The frame after execution: RESPONSE, with the response formed and none of it sent (R189, R191). -/
def Frame.executed (code : Byte) (args : List Byte) (response : List Byte) : Frame :=
  { state := .response, bitCount := 0, bits := 0#8, command := code, args := args, response := response, sent := 0 }

/-- A command executed at the completion of its last byte, and its response formed (R191). -/
def afterExecution (code : Byte) (args : List Byte) (ran : Reply × State) : State :=
  { ran.2 with frame := Frame.executed code args ran.1.bytes }

/-- The whole bytes of the command that a frame has received so far. -/
def Frame.received (f : Frame) : List Byte :=
  match f.state with
  | .arguments => f.command :: f.args
  | _ => []

/-- Whether a frame is receiving a command and what it has received so far, whole bytes and bits of the current byte, is
the beginning of these bytes, with at least one bit still to come. -/
def Frame.awaits (f : Frame) (bytes : List Byte) : Bool :=
  (f.state == .command || f.state == .arguments)
    && f.received == bytes.take f.received.length
    && decide (f.received.length < bytes.length)
    && f.bits == argument bytes f.received.length >>> (8 - f.bitCount)

/-- A management command as an event: what is still to come of its bytes arrives, and it executes at the completion of
the last of them (R191). Where the frame in progress cannot end in this command, this event does not take place
(assumption 7). -/
def State.serve (s : State) (code : Byte) (args : List Byte) (ran : Reply × State) : State :=
  if s.frame.awaits (code :: args) then afterExecution code args ran else s

/-- The current byte with one more bit, most significant bit first (R188). -/
def Frame.shiftIn (f : Frame) (msi : Bool) : Byte := (f.bits <<< 1) ||| (if msi then 1#8 else 0#8)

/-- A byte completed while the port is in COMMAND: the command executes if it takes no argument bytes (R189). -/
def State.commandByte (s : State) (code : Byte) : State :=
  if argumentsAfter code = 0 then afterExecution code [] (s.runByte code [])
  else
    { s with frame := { s.frame with state := .arguments, bitCount := 0, bits := 0#8, command := code, args := [] } }

/-- A byte completed while the port is in ARGUMENTS: the last argument byte executes the command (R189). -/
def State.argumentByte (s : State) (byte : Byte) : State :=
  let args := s.frame.args ++ [byte]
  if args.length < argumentsAfter s.frame.command then
    { s with frame := { s.frame with bitCount := 0, bits := 0#8, args := args } }
  else afterExecution s.frame.command args (s.runByte s.frame.command args)

/-- A response byte sent; the last one moves the port to TRAILING (R189). -/
def Frame.byteSent (f : Frame) : Frame :=
  { f with
    state := if f.sent + 1 < f.response.length then .response else .trailing
    bitCount := 0
    sent := f.sent + 1 }

/-- A rising edge of MSCK (R188, R189): MSI is sampled while the command and its arguments are received and ignored
otherwise, and every eighth edge completes a byte. -/
def State.clockEdge (s : State) (msi : Bool) : State :=
  let f := s.frame
  if f.bitCount < 7 then
    match f.state with
    | .idle => s
    | .command | .arguments => { s with frame := { f with bitCount := f.bitCount + 1, bits := f.shiftIn msi } }
    | .response | .trailing => { s with frame := { f with bitCount := f.bitCount + 1 } }
  else
    match f.state with
    | .idle => s
    | .command => s.commandByte (f.shiftIn msi)
    | .arguments => s.argumentByte (f.shiftIn msi)
    | .response => { s with frame := f.byteSent }
    | .trailing => { s with frame := { f with bitCount := 0 } }

/-- Whether a frame's RESET_COLD has been formed and waits for the rise of MCS (R201). -/
def Frame.resetDue (f : Frame) : Bool :=
  f.command == commandCode .resetCold && (f.state == .response || f.state == .trailing)

/-- The rise of MCS: a RESET_COLD executes (R201), and otherwise the frame ends or is discarded (R192). -/
def State.raiseMcs (s : State) : State :=
  let t : State := { s with mcs := false }
  if s.frame.resetDue then t.coldReset else { t with frame := Frame.none }

end Sys2Proof.Machine
end

