-- ==== Sys2Proof/Machine/ManagementCommands.lean ====
section
/-! DEFINITION. The meanings of the management port's commands (11_the_management_port.md). The row of a command is the
arrival of what is still to come of its bytes in the frame in progress, ending in its execution; a frame that cannot end
in this command leaves the part as it is (assumption 7). -/

namespace Sys2Proof.Machine

/-- FRAME_BEGIN: the fall of MCS moves the port from IDLE to COMMAND; while PORESET is asserted the port stays in IDLE
(R189, R203). MCS that is already asserted does not fall. -/
def execFrameBegin (s : State) : Host.Outcome State Fault Refusal :=
  let p := s.settled
  let t : State := { p with mcs := true }
  .next (if p.mcs || p.poreset then t else { t with frame := Frame.begin })

/-- FRAME_END: the rise of MCS ends or discards the frame (R192); a RESET_COLD executes at it (R201), and finds an
outstanding decision granted (R53; assumption 10). MCS that is already deasserted does not rise. -/
def execFrameEnd (s : State) : Host.Outcome State Fault Refusal :=
  let p := s.settled
  .next (if p.mcs then p.raiseMcs else p)

/-- MSCK_RISING_EDGE: while MCS is deasserted, and in IDLE, the port ignores MSCK (R188, R203). -/
def execMsckRisingEdge (msi : Bool) (s : State) : Host.Outcome State Fault Refusal :=
  let p := s.settled
  .next (if p.mcs then p.clockEdge msi else p)

/-- UNKNOWN_COMMAND (R190). -/
def execUnknownCommand (code : Byte) (s : State) : Host.Outcome State Fault Refusal :=
  let p := s.settled
  .next (if (commandNamed code).isNone then p.serve code [] p.runUnknown else p)

/-- IDENTIFY (R194). -/
def execIdentify (s : State) : Host.Outcome State Fault Refusal :=
  let p := s.settled
  .next (p.serve (commandCode .identify) [] p.runIdentify)

/-- READ_STATUS (R195). -/
def execReadStatus (s : State) : Host.Outcome State Fault Refusal :=
  let p := s.settled
  .next (p.serve (commandCode .readStatus) [] p.runReadStatus)

/-- READ_SETTING (R196, R207). -/
def execReadSetting (identifier : Byte) (s : State) : Host.Outcome State Fault Refusal :=
  let p := s.settled
  .next (p.serve (commandCode .readSetting) [identifier] (p.runReadSetting identifier))

/-- READ_SLOT (R128, R198). -/
def execReadSlot (number : Byte) (s : State) : Host.Outcome State Fault Refusal :=
  let p := s.settled
  .next (p.serve (commandCode .readSlot) [number] (p.runReadSlot number))

/-- READ_HEALTH (R111, R198). -/
def execReadHealth (place : Byte) (s : State) : Host.Outcome State Fault Refusal :=
  let p := s.settled
  .next (p.serve (commandCode .readHealth) [place] (p.runReadHealth place))

/-- READ_MIGRATION (R157, R198). -/
def execReadMigration (position : Byte) (s : State) : Host.Outcome State Fault Refusal :=
  let p := s.settled
  .next (p.serve (commandCode .readMigration) [position] (p.runReadMigration position))

/-- PEEK_REPORT (R181, R199). -/
def execPeekReport (s : State) : Host.Outcome State Fault Refusal :=
  let p := s.settled
  .next (p.serve (commandCode .peekReport) [] p.runPeekReport)

/-- POP_REPORT (R182, R199). -/
def execPopReport (s : State) : Host.Outcome State Fault Refusal :=
  let p := s.settled
  .next (p.serve (commandCode .popReport) [] p.runPopReport)

/-- MAP_PRESET (R124, R200). -/
def execMapPreset (line : BitVec 24) (s : State) : Host.Outcome State Fault Refusal :=
  let p := s.settled
  .next (p.serve (commandCode .mapPreset) (bigEndian 3 line.toNat) (p.runMapPreset line.toNat))

/-- UNMAP_SLOT (R124, R200). -/
def execUnmapSlot (number : Byte) (s : State) : Host.Outcome State Fault Refusal :=
  let p := s.settled
  .next (p.serve (commandCode .unmapSlot) [number] (p.runUnmapSlot number))

/-- MIGRATE (R134, R200). -/
def execMigrate (line : BitVec 24) (s : State) : Host.Outcome State Fault Refusal :=
  let p := s.settled
  .next (p.serve (commandCode .migrate) (bigEndian 3 line.toNat) (p.runMigrate line.toNat))

/-- CANCEL (R148, R200). -/
def execCancel (line : BitVec 24) (s : State) : Host.Outcome State Fault Refusal :=
  let p := s.settled
  .next (p.serve (commandCode .cancel) (bigEndian 3 line.toNat) (p.runCancel line.toNat))

/-- CLEAR_HEALTH (R109, R202). -/
def execClearHealth (s : State) : Host.Outcome State Fault Refusal :=
  let p := s.settled
  .next (p.serve (commandCode .clearHealth) [] p.runClearHealth)

/-- START_SWEEP (R161, R202). -/
def execStartSweep (s : State) : Host.Outcome State Fault Refusal :=
  let p := s.settled
  .next (p.serve (commandCode .startSweep) [] p.runStartSweep)

/-- ADOPT (R165, R202). -/
def execAdopt (s : State) : Host.Outcome State Fault Refusal :=
  let p := s.settled
  .next (p.serve (commandCode .adopt) [] p.runAdopt)

/-- QUIESCE (R166, R202). -/
def execQuiesce (s : State) : Host.Outcome State Fault Refusal :=
  let p := s.settled
  .next (p.serve (commandCode .quiesce) [] p.runQuiesce)

/-- RESUME (R170, R202). -/
def execResume (s : State) : Host.Outcome State Fault Refusal :=
  let p := s.settled
  .next (p.serve (commandCode .resume) [] p.runResume)

/-- RESET_COLD: the rise of MCS that ends its frame performs the cold reset (R201). What is still to come of its command
byte arrives first; a frame that does not carry RESET_COLD has no such rise. Like PORESET it finds an outstanding decision
granted (R53; assumption 10). -/
def execResetCold (s : State) : Host.Outcome State Fault Refusal :=
  let p := s.settled
  let t := p.serve (commandCode .resetCold) [] p.runResetCold
  .next (if t.mcs && t.frame.resetDue then t.raiseMcs else p)

end Sys2Proof.Machine
end

