-- ==== Sys2Proof/Machine/ResetCommands.lean ====
section
/-! DEFINITION. The meanings of the reset lines' commands. -/

namespace Sys2Proof.Machine

/-- HRESET_ASSERT: a warm reset (R39, R59, R72, R91, R112, R130, R155, R171, R185). HRESET that is already asserted has no
further assertion, and while PORESET is asserted the cold reset holds (assumption 8). A decision that is outstanding has been
made and granted first: an HRESET that comes strictly between a completion and its decision is left out, which is the model's
choice (R53; assumption 10). -/
def execHresetAssert (s : State) : Host.Outcome State Fault Refusal :=
  let p := s.settled
  let t : State := { p with hreset := true }
  .next (if p.hreset || p.poreset then t else t.warmReset)

/-- HRESET_DEASSERT: the controller passes from ABANDONED to IDLE (R17, R41); nothing else changes (R60, R171). -/
def execHresetDeassert (s : State) : Host.Outcome State Fault Refusal :=
  let p := s.settled
  let t : State := { p with hreset := false }
  .next (if p.host.state = .abandoned then { t with host := HostPort.none } else t)

/-- PORESET_ASSERT: a cold reset (R42, R58, R73, R92, R113, R131, R156, R173, R186, R203, R204). Like HRESET it finds an
outstanding decision granted (R53; assumption 10). -/
def execPoresetAssert (s : State) : Host.Outcome State Fault Refusal :=
  let p := s.settled
  let t : State := { p with poreset := true }
  .next t.coldReset

/-- PORESET_DEASSERT: strobes and frames are taken again from the next assertion of HSTB or fall of MCS (R42, R203). -/
def execPoresetDeassert (s : State) : Host.Outcome State Fault Refusal :=
  let p := s.settled
  .next { p with poreset := false }

end Sys2Proof.Machine
end

