-- ==== Sys2Proof/Machine/SettingCommands.lean ====
section
/-! DEFINITION. The meanings of WRITE_SETTING and of its forms for the eight settings (R196). -/

namespace Sys2Proof.Machine

/-- The argument bytes of a WRITE_SETTING: the identifier, then the 2-byte value (R190). -/
def writeArguments (identifier : Byte) (value : BitVec 16) : List Byte :=
  identifier :: bigEndian 2 value.toNat

/-- A WRITE_SETTING frame with this identifier and value (R196). -/
def State.serveWrite (s : State) (identifier : Byte) (value : BitVec 16) : State :=
  s.serve (commandCode .writeSetting) (writeArguments identifier value) (s.runWriteSetting identifier value)

/-- WRITE_SETTING: an identifier that names no setting answers BAD_ARGUMENT, and any other is the write of that setting
(R196, R207). -/
def execWriteSetting (identifier : Byte) (value : BitVec 16) (s : State) : Host.Outcome State Fault Refusal :=
  .next (s.settled.serveWrite identifier value)

/-- WRITE_SETTING of MEMORY_LINES_LOG2 (R126, R174). -/
def execWriteMemoryLinesLog2 (value : BitVec 16) (s : State) : Host.Outcome State Fault Refusal :=
  .next (s.settled.serveWrite 0x01#8 value)

/-- WRITE_SETTING of SPARE_COUNT (R125). -/
def execWriteSpareCount (value : BitVec 16) (s : State) : Host.Outcome State Fault Refusal :=
  .next (s.settled.serveWrite 0x02#8 value)

/-- WRITE_SETTING of PATROL_INTERVAL (R87). -/
def execWritePatrolInterval (value : BitVec 16) (s : State) : Host.Outcome State Fault Refusal :=
  .next (s.settled.serveWrite 0x03#8 value)

/-- WRITE_SETTING of DEBT_LIMIT (R88). -/
def execWriteDebtLimit (value : BitVec 16) (s : State) : Host.Outcome State Fault Refusal :=
  .next (s.settled.serveWrite 0x04#8 value)

/-- WRITE_SETTING of MIGRATE_THRESHOLD (R110). -/
def execWriteMigrateThreshold (value : BitVec 16) (s : State) : Host.Outcome State Fault Refusal :=
  .next (s.settled.serveWrite 0x05#8 value)

/-- WRITE_SETTING of MIGRATE_ON_UNCORRECTABLE (R110, R207). -/
def execWriteMigrateOnUncorrectable (value : BitVec 16) (s : State) : Host.Outcome State Fault Refusal :=
  .next (s.settled.serveWrite 0x06#8 value)

/-- WRITE_SETTING of AGE_PASSES (R110). -/
def execWriteAgePasses (value : BitVec 16) (s : State) : Host.Outcome State Fault Refusal :=
  .next (s.settled.serveWrite 0x07#8 value)

/-- WRITE_SETTING of ALERT_MASK (R184, R207). -/
def execWriteAlertMask (value : BitVec 16) (s : State) : Host.Outcome State Fault Refusal :=
  .next (s.settled.serveWrite 0x08#8 value)

end Sys2Proof.Machine
end

