-- ==== Sys2Proof/Machine/StepCommands.lean ====
section
/-! DEFINITION. The meanings of the internal steps' commands: the take, and the completions of the accesses of W, P, M
and S. A completion that names an access which is not in progress does not take place, and changes nothing
(assumption 7). -/

namespace Sys2Proof.Machine

/-- Whether a take that comes now reaches the engine before the decision of a release: the decision is outstanding, was
made at a release, and its grant has not been carried out (R53; assumption 10). -/
def State.takePrecedesDecision (s : State) : Bool := s.award.isSome && s.decisionOpen && s.takeDue

/-- TAKE: with a take due, the head request is taken; if the conditions have ceased to hold, no take occurs (R136 to
R138). Requester M is present from a successful take on, and a FREE port is decided on at once (R48, R137). A take that
follows a release before the grant of its decision has reached the engine before that decision, which is made on what the
take leaves (R48, R53); one that follows the grant finds the port held. -/
def execTake (s : State) : Host.Outcome State Fault Refusal :=
  .next <|
    if s.takePrecedesDecision then s.takeHead.release
    else
      let p := s.settled
      if p.takeDue then p.takeHead.arbitrate else p

/-- DRAIN_WRITE_COMPLETE: the entry at the head is removed and the grant is released (R65). -/
def execDrainWriteComplete (s : State) : Host.Outcome State Fault Refusal :=
  let p := s.settled
  .next <|
    match p.liveAccess with
    | some (.drainWrite word stored) =>
      let t := p.writeCell word stored
      let t : State := { t with writeBacks := t.writeBacks.tail }
      t.endGrant
    | _ => p

/-- A patrol read's word decoded and acted on by class (R81, R82), whatever the mode has become since the grant: a step that
completes in QUIET advances the cursor there, and may end a pass (R86; assumption 23). -/
def State.patrolReadDecoded (s : State) (word : Nat) (d : Decoded) : State :=
  match d.cls.error with
  | some cls =>
    if cls.corrected then (s.correctedRead word cls .patrol).nextAccess (.patrolWrite word d.repaired)
    else
      (s.uncorrectableRead (.uncorrectable word (cls == .multi) .patrol) word cls .patrol).advancePatrol.endGrant
  | none => s.advancePatrol.endGrant

/-- PATROL_READ_COMPLETE (R79, R81). -/
def execPatrolReadComplete (changed : StoredWord) (s : State) : Host.Outcome State Fault Refusal :=
  let p := s.settled
  .next <|
    match p.liveAccess with
    | some (.patrolRead word) =>
      let found := p.readCells word changed
      found.2.patrolReadDecoded word (decode found.1)
    | _ => p

/-- PATROL_WRITE_COMPLETE: made known to the Write-Back Queue; the cursor advances; the grant is released (R79, R82). In
QUIET too the cursor advances, and may end a pass (R86; assumption 23). -/
def execPatrolWriteComplete (s : State) : Host.Outcome State Fault Refusal :=
  let p := s.settled
  .next <|
    match p.liveAccess with
    | some (.patrolWrite word stored) =>
      ((p.writeCell word stored).supersede word).advancePatrol.endGrant
    | _ => p

/-- The target word formed from a copied word: the repaired word, or a poison marker over the raw data when the flag is
set (R140, R141). -/
def Decoded.copied (d : Decoded) : StoredWord := if d.flag then poisonMarker d.data else d.repaired

/-- A copy read's word decoded: a report for DOUBLE or MULTI, and the write of the target word begins (R139 to R141). -/
def State.copyReadDecoded (s : State) (c : Copy) (word : Nat) (d : Decoded) : State :=
  let t :=
    if d.cls = .double ∨ d.cls = .multi then s.append (.uncorrectable word (d.cls == .multi) .migration) else s
  t.nextAccess (.copyWrite (wordAt (s.poolBase + c.target) c.cursor) d.copied d.cls)

/-- COPY_READ_COMPLETE (R139 to R141). -/
def execCopyReadComplete (changed : StoredWord) (s : State) : Host.Outcome State Fault Refusal :=
  let p := s.settled
  .next <|
    match p.liveAccess, p.copy with
    | some (.copyRead word), some c =>
      let found := p.readCells word changed
      found.2.copyReadDecoded c word (decode found.1)
    | _, _ => p

/-- The context after a copy step: the counts and the cursor (R140 to R142). -/
def Copy.stepped (c : Copy) (source : DecodeClass) : Copy :=
  { c with
    cursor := c.cursor + 1
    carried := if source = .singleData ∨ source = .singleCheck then c.carried + 1 else c.carried
    poisoned := if source = .double ∨ source = .multi ∨ source = .poisoned then c.poisoned + 1 else c.poisoned }

/-- The end of a copy step: with an abort pending the cursor is not advanced (R149); the step that brings the cursor to
8 commits (R142, R146). -/
def State.copyStepEnds (s : State) (c : Copy) (source : DecodeClass) : State :=
  if c.abortPending then s
  else if c.cursor + 1 = 8 then s.commitCopy (c.stepped source)
  else { s with copy := some (c.stepped source) }

/-- COPY_WRITE_COMPLETE (R142, R146, R149). -/
def execCopyWriteComplete (s : State) : Host.Outcome State Fault Refusal :=
  let p := s.settled
  .next <|
    match p.liveAccess, p.copy with
    | some (.copyWrite word stored source), some c =>
      ((p.writeCell word stored).copyStepEnds c source).endGrant
    | _, _ => p

/-- The sweep's completion: the mode becomes NORMAL and SWEEP_DONE is appended (R163). -/
def State.sweepDone (s : State) : State := s.enterNormal.append (.sweepDone s.memoryLines)

/-- The sweep cursor after a sweep step (R162). -/
def State.advanceSweep (s : State) : State :=
  if s.sweepIndex < 7 then { s with sweepIndex := s.sweepIndex + 1 }
  else
    let t : State := { s with sweepIndex := 0, sweepLine := s.sweepLine + 1 }
    if t.sweepLine = t.memoryLines then t.sweepDone else t

/-- SWEEP_WRITE_COMPLETE (R162, R163). -/
def execSweepWriteComplete (s : State) : Host.Outcome State Fault Refusal :=
  let p := s.settled
  .next <|
    match p.liveAccess with
    | some (.sweepWrite word stored) => ((p.writeCell word stored).supersede word).advanceSweep.endGrant
    | _ => p

end Sys2Proof.Machine
end

