-- ==== Sys2Proof/Machine/TimeCommands.lean ====
section
/-! DEFINITION. The meanings of the timebase's commands (5.2). -/

namespace Sys2Proof.Machine

/-- Whether the interval timer advances at a tick: in NORMAL, with PATROL_INTERVAL at 1 or more (R75). -/
def State.timerRuns (s : State) : Bool := s.mode == .normal && decide (1 ≤ s.settings.patrolInterval)

/-- Whether the next tick brings the timer to PATROL_INTERVAL (R75). -/
def State.expiryDue (s : State) : Bool := s.timerRuns && s.patrol.timer + 1 == s.settings.patrolInterval

/-- An interval expiry: the timer returns to 0 (R75); debt below DEBT_LIMIT rises by 1, which can make P present to a FREE
port, and an expiry at the limit is discarded (R76). -/
def State.expire (s : State) : State :=
  if s.patrol.debt < s.settings.debtLimit then
    let t : State := { s with patrol := { s.patrol with timer := 0, debt := s.patrol.debt + 1 } }
    t.arbitrate
  else { s with patrol := { s.patrol with timer := 0 } }

/-- TIMEBASE_TICK: the timer advances by 1; a tick that brings it to PATROL_INTERVAL is an interval expiry (R75). -/
def execTimebaseTick (s : State) : Host.Outcome State Fault Refusal :=
  let p := s.settled
  .next <|
    if p.expiryDue then p.expire
    else if p.timerRuns then { p with patrol := { p.patrol with timer := p.patrol.timer + 1 } }
    else p

/-- INTERVAL_EXPIRY: the tick that brings the timer to PATROL_INTERVAL (R75, R76). Where the next tick does not, there is
no expiry (assumption 7). -/
def execIntervalExpiry (s : State) : Host.Outcome State Fault Refusal :=
  let p := s.settled
  .next (if p.expiryDue then p.expire else p)

end Sys2Proof.Machine
end

