-- ==== Sys2Proof/Machine/Dispatch.lean ====
section
/-! DEFINITION. Every command and its meaning: one arm per row of spec/opcode_table.json. -/

namespace Sys2Proof.Machine

/-- A command's effect on everything but the queue of waiting commands. -/
def exec (i : Instr) (s : State) : Host.Outcome State Fault Refusal :=
  match i with
  | .hostStrobe address isWrite enables data => Sys2Proof.Machine.execHostStrobe address isWrite enables data s
  | .hstbDeassert => Sys2Proof.Machine.execHstbDeassert s
  | .hresetAssert => Sys2Proof.Machine.execHresetAssert s
  | .hresetDeassert => Sys2Proof.Machine.execHresetDeassert s
  | .poresetAssert => Sys2Proof.Machine.execPoresetAssert s
  | .poresetDeassert => Sys2Proof.Machine.execPoresetDeassert s
  | .timebaseTick => Sys2Proof.Machine.execTimebaseTick s
  | .intervalExpiry => Sys2Proof.Machine.execIntervalExpiry s
  | .hostGrant => Sys2Proof.Machine.execHostGrant s
  | .hostReadComplete changed => Sys2Proof.Machine.execHostReadComplete changed s
  | .inlineWriteBackComplete => Sys2Proof.Machine.execInlineWriteBackComplete s
  | .partialWriteReadComplete changed => Sys2Proof.Machine.execPartialWriteReadComplete changed s
  | .hostWriteComplete => Sys2Proof.Machine.execHostWriteComplete s
  | .targetWriteComplete => Sys2Proof.Machine.execTargetWriteComplete s
  | .abandonedAccessComplete => Sys2Proof.Machine.execAbandonedAccessComplete s
  | .drainGrant => Sys2Proof.Machine.execDrainGrant s
  | .drainWriteComplete => Sys2Proof.Machine.execDrainWriteComplete s
  | .patrolGrant => Sys2Proof.Machine.execPatrolGrant s
  | .patrolReadComplete changed => Sys2Proof.Machine.execPatrolReadComplete changed s
  | .patrolWriteComplete => Sys2Proof.Machine.execPatrolWriteComplete s
  | .take => Sys2Proof.Machine.execTake s
  | .copyGrant => Sys2Proof.Machine.execCopyGrant s
  | .copyReadComplete changed => Sys2Proof.Machine.execCopyReadComplete changed s
  | .copyWriteComplete => Sys2Proof.Machine.execCopyWriteComplete s
  | .sweepGrant => Sys2Proof.Machine.execSweepGrant s
  | .sweepWriteComplete => Sys2Proof.Machine.execSweepWriteComplete s
  | .frameBegin => Sys2Proof.Machine.execFrameBegin s
  | .frameEnd => Sys2Proof.Machine.execFrameEnd s
  | .unknownCommand code => Sys2Proof.Machine.execUnknownCommand code s
  | .identify => Sys2Proof.Machine.execIdentify s
  | .readStatus => Sys2Proof.Machine.execReadStatus s
  | .readSetting identifier => Sys2Proof.Machine.execReadSetting identifier s
  | .writeSetting identifier value => Sys2Proof.Machine.execWriteSetting identifier value s
  | .writeMemoryLinesLog2 value => Sys2Proof.Machine.execWriteMemoryLinesLog2 value s
  | .writeSpareCount value => Sys2Proof.Machine.execWriteSpareCount value s
  | .writePatrolInterval value => Sys2Proof.Machine.execWritePatrolInterval value s
  | .writeDebtLimit value => Sys2Proof.Machine.execWriteDebtLimit value s
  | .writeMigrateThreshold value => Sys2Proof.Machine.execWriteMigrateThreshold value s
  | .writeMigrateOnUncorrectable value => Sys2Proof.Machine.execWriteMigrateOnUncorrectable value s
  | .writeAgePasses value => Sys2Proof.Machine.execWriteAgePasses value s
  | .writeAlertMask value => Sys2Proof.Machine.execWriteAlertMask value s
  | .readSlot number => Sys2Proof.Machine.execReadSlot number s
  | .readHealth place => Sys2Proof.Machine.execReadHealth place s
  | .readMigration position => Sys2Proof.Machine.execReadMigration position s
  | .peekReport => Sys2Proof.Machine.execPeekReport s
  | .popReport => Sys2Proof.Machine.execPopReport s
  | .mapPreset line => Sys2Proof.Machine.execMapPreset line s
  | .unmapSlot number => Sys2Proof.Machine.execUnmapSlot number s
  | .migrate line => Sys2Proof.Machine.execMigrate line s
  | .cancel line => Sys2Proof.Machine.execCancel line s
  | .clearHealth => Sys2Proof.Machine.execClearHealth s
  | .startSweep => Sys2Proof.Machine.execStartSweep s
  | .adopt => Sys2Proof.Machine.execAdopt s
  | .quiesce => Sys2Proof.Machine.execQuiesce s
  | .resume => Sys2Proof.Machine.execResume s
  | .resetCold => Sys2Proof.Machine.execResetCold s
  | .msckRisingEdge msi => Sys2Proof.Machine.execMsckRisingEdge msi s

end Sys2Proof.Machine
end

