-- ==== Sys2Proof/Machine/Step.lean ====
section
/-! DEFINITION. One step of the block: the command at the front of the queue is carried out (assumption 9). -/

namespace Sys2Proof.Machine

/-- One step: the oldest waiting command is taken from the queue and carried out. With no command waiting the block idles:
every event of the part but one has its own row of the table, and that one, the beginning of a host grant's next access,
comes about there (assumptions 9 and 21). -/
def step (s : State) : Host.Outcome State Fault Refusal :=
  match s.pending with
  | [] => .next s.whileIdle
  | c :: rest => exec c { s with pending := rest }

/-- The state with the command that a table word spells put at the front of the queue; unchanged where the word spells
none (assumption 2). -/
def State.withFetchWord (s : State) (nbits w : Nat) : State :=
  match decodeTableWord nbits w with
  | some c => { s with pending := c :: s.pending }
  | none => s

end Sys2Proof.Machine
end

