-- ==== Sys2Proof/Machine/Pins.lean ====
section
/-! DEFINITION. The output lines that are views of the state. HRDY, HERR, HD and ALERT are held in the state itself;
the memory port's lines follow from the access in progress (R43), and MSO from the frame (R188, R189). -/

namespace Sys2Proof.Machine

/-- The lines of the memory port. -/
structure MemoryLines where
  mce : Bool
  moe : Bool
  mwe : Bool
  /-- MA[21:0]; none: the manual names no address (assumption 22). -/
  ma : Option (BitVec 22)
  /-- What the part drives on MD[38:0]; none: MD is released. -/
  md : Option StoredWord
  deriving DecidableEq, Repr

/-- The access in progress: none in the gap before a host grant's next access (R40, R43). -/
def State.accessInProgress (s : State) : Option Access := if s.port.gap then none else s.port.access

/-- The memory port's lines: for a read MCE and MOE, for a write MCE and MWE with MD driven, and between accesses all
deasserted and MD released (R43). What MA carries between accesses the manual leaves open (assumption 22). -/
def State.memoryLinesDriven (s : State) : MemoryLines :=
  match s.accessInProgress with
  | none => { mce := false, moe := false, mwe := false, ma := none, md := none }
  | some a =>
    { mce := true
      moe := a.stored.isNone
      mwe := a.stored.isSome
      ma := some (BitVec.ofNat 22 a.word)
      md := a.stored }

/-- MSO, as it stands at the next rising edge of MSCK: released in IDLE, a bit of the response in RESPONSE, and otherwise a
bit of the padding byte (R188, R189, R206). -/
def State.mso (s : State) : Option Bool :=
  match s.frame.state with
  | .idle => none
  | .response => some ((s.frame.response.getD s.frame.sent 0#8).getLsbD (7 - s.frame.bitCount))
  | .command | .arguments | .trailing => some false

/-- ALERT is driven low exactly while it is asserted, and released otherwise (R183). -/
def State.alertDriven (s : State) : Option Bool := if s.alert then some false else none

end Sys2Proof.Machine
end

