-- ==== Sys2Proof/Safety.lean ====
section
/-! DEFINITION. What a sound state is: the invariants that the manual states in prose, gathered by block. Each is a
property of one state; that every command keeps it is stated in Certificates/Slice0/Obligations.lean. The manual's "at
all times" is what a run shows between two commands. -/

namespace Sys2Proof.Machine

/-! ### The Report Queue -/

/-- No two LOST records stand next to each other (R178). -/
def noAdjacentLost : List ReportRecord → Bool
  | [] => true
  | [_] => true
  | a :: b :: rest => !(a.report.isLost && b.report.isLost) && noAdjacentLost (b :: rest)

/-- The records carry consecutive sequence numbers from head to tail, the last of them one below `next` (R176). -/
def numberedUpTo (next : Sequence) : List ReportRecord → Bool
  | [] => true
  | r :: rest => r.sequence + BitVec.ofNat 16 (rest.length + 1) == next && numberedUpTo next rest

/-- A LOST record's count is 1 to 255 (R177, R178). -/
def Report.countOk : Report → Bool
  | .lost n => decide (1 ≤ n) && decide (n ≤ 255)
  | _ => true

/-- The Report Queue and ALERT (R176, R178, R183). -/
structure State.ReportsSound (s : State) : Prop where
  atMost16 : s.reports.length ≤ 16
  fullEndsInLost : s.reports.length = 16 → tailIsLost s.reports = true
  noAdjacent : noAdjacentLost s.reports = true
  numbered : numberedUpTo s.sequence s.reports = true
  counts : ∀ r ∈ s.reports, r.report.countOk = true
  alertFollows : s.alert = alertCondition s.settings.alertMask s.reports

/-! ### The array -/

/-- The array's list stands in its canonical form, so that equal arrays are equal data. -/
def State.ArraySound (s : State) : Prop := cellsWf s.cells = true

/-! ### The Patrol Scrubber, the sweep and the starvation counter -/

/-- The patrol's state and the starvation counter (R51, R75, R77, R90). -/
structure State.PatrolSound (s : State) : Prop where
  lineFitted : s.patrol.line < s.memoryLines
  indexInLine : s.patrol.index ≤ 7
  debtAtMostLimit : s.patrol.debt ≤ s.settings.debtLimit
  restsOutsideNormal : s.mode ≠ .normal → s.patrol.debt = 0 ∧ s.patrol.timer = 0
  timerBelowInterval : s.patrol.timer = 0 ∨ s.patrol.timer < s.settings.patrolInterval
  starvationAtMost16 : s.starvation ≤ 16

/-- A sweep step's access that no warm reset has abandoned. -/
def State.sweepInProgress (s : State) : Bool :=
  match s.liveAccess with
  | some (.sweepWrite _ _) => true
  | _ => false

/-- The sweep cursor, and that sweep steps belong to SWEEPING (R46, R158, R172). -/
structure State.SweepSound (s : State) : Prop where
  lineAtMostAll : s.sweepLine ≤ s.memoryLines
  indexInLine : s.sweepIndex ≤ 7
  lineLeftWhileSweeping : s.mode = .sweeping → s.sweepLine < s.memoryLines
  stepOnlyWhileSweeping : s.sweepInProgress = true → s.mode = .sweeping
  grantOnlyWhileSweeping : s.awardedTo (.step .sweep) = true → s.mode = .sweeping

/-! ### The Line Health Table -/

/-- The lines that have entries, in the order of their places. -/
def State.healthLines (s : State) : List Nat := s.health.filterMap (Option.map HealthEntry.line)

/-- The Line Health Table: 32 places, no two entries for one line, counts of at most 255 (R94, R96). -/
structure State.HealthSound (s : State) : Prop where
  places : s.health.length = 32
  oneEntryPerLine : s.healthLines.Nodup
  counts : ∀ e ∈ s.health.filterMap id, e.count ≤ 255

/-! ### The Substitution Map and the Migration Engine -/

/-- The home lines of the ACTIVE slots. -/
def State.activeHomes (s : State) : List Nat := s.slots.filterMap Slot.activeHome

/-- Whether a slot is MIGRATING. -/
def Slot.isMigrating : Slot → Bool
  | .migrating .. => true
  | _ => false

/-- The numbers of the MIGRATING slots. -/
def State.migratingSlots (s : State) : List Nat :=
  (List.range s.slots.length).filter fun i => s.slots[i]?.any Slot.isMigrating

/-- What the copy in flight agrees with: its home line is a host line, its source is the line of record of that line,
its target is a slot that is MIGRATING with the context's home, reason and source slot, and its counts fit its cursor
(R116, R117, R135, R137). -/
structure State.CopySound (s : State) (c : Copy) : Prop where
  homeInView : c.home < s.poolBase
  sourceOfRecord : c.sourceLine = s.translate c.home ∧ c.sourceSlot = s.activeSlot c.home
  target : s.slots[c.target]? = some (.migrating c.home (.request c.reason) c.sourceSlot)
  cursorInLine : c.cursor ≤ 7
  countsFit : c.carried + c.poisoned ≤ c.cursor

/-- The Substitution Map, the pool settings, the migration queue and the context (R115, R116, R132, R135, R160). -/
structure State.MapSound (s : State) : Prop where
  slots64 : s.slots.length = 64
  linesRange : 12 ≤ s.settings.memoryLinesLog2 ∧ s.settings.memoryLinesLog2 ≤ 19
  sparesRange : s.settings.spareCount ≤ 64
  absentAbove : ∀ i < 64, (s.slots[i]? = some .absent ↔ s.settings.spareCount ≤ i)
  oneActivePerHome : s.activeHomes.Nodup
  activeInView : ∀ h ∈ s.activeHomes, h < s.poolBase
  migratingIsTarget : s.migratingSlots = (s.copy.map Copy.target).toList
  copySound : ∀ c, s.copy = some c → s.CopySound c
  queueAtMost4 : s.migrations.length ≤ 4
  queueHomesDiffer : (s.migrations.map MigrationRequest.home).Nodup
  queueInView : ∀ r ∈ s.migrations, r.home < s.poolBase
  queueNotInFlight : ∀ c, s.copy = some c → c.home ∉ s.migrations.map MigrationRequest.home
  uninitQueueEmpty : s.mode = .uninit → s.migrations = []

/-! ### The Host Port Controller, the port and the Write-Back Queue -/

/-- The states in which the controller holds a cycle (R17, 2.2). -/
def HostState.holdsCycle : HostState → Bool
  | .waiting | .accessing | .responding => true
  | .idle | .abandoned => false

/-- Whether a record's cycle is a NULL WRITE. -/
def CycleRecord.isNullWrite (r : CycleRecord) : Bool :=
  match r.kind with
  | .nullWrite _ => true
  | _ => false

/-- The Host Port Controller and its lines (R15, R16, R17, R23, R37, R39). -/
structure State.HostSound (s : State) : Prop where
  recordWhileHeld : s.host.record.isSome = s.host.state.holdsCycle
  readyWhileResponding : s.host.hrdy = (s.host.state == .responding)
  errorOnlyReady : s.host.herr = true → s.host.hrdy = true
  dataOnlyReady : s.host.hd.isSome = true → s.host.hrdy = true
  respondingUntilWithdrawn : s.host.state = .responding → s.strobeHeld = true
  strobeHeldByCycle : s.strobeHeld = true → s.hstb = true ∧ s.host.state.holdsCycle = true
  abandonedUnderReset : s.host.state = .abandoned → s.hreset = true
  nullWriteNeverWaits : (s.host.state = .waiting ∨ s.host.state = .accessing) →
    s.host.record.all (fun r => !r.isNullWrite) = true

/-- Who holds the port during an access (R45). -/
def Access.holder : Access → PortHolder
  | .hostRead _ | .inlineWriteBack _ _ | .mergeRead _ | .hostWrite _ _ | .targetWrite _ _ => .host
  | .drainWrite _ _ => .step .drain
  | .patrolRead _ | .patrolWrite _ _ => .step .patrol
  | .copyRead _ | .copyWrite _ _ _ => .step .copy
  | .sweepWrite _ _ => .step .sweep

/-- The accesses that can follow another one within a host grant (R25). -/
def Access.followsInGrant : Access → Bool
  | .inlineWriteBack _ _ | .hostWrite _ _ | .targetWrite _ _ => true
  | .hostRead _ | .mergeRead _ | .drainWrite _ _ | .patrolRead _ | .patrolWrite _ _ | .copyRead _ | .copyWrite _ _ _
  | .sweepWrite _ _ => false

/-- The port and the arbiter: an access under a grant and only then, and on a FREE port the decision that the requesters'
state calls for, so that a FREE port without one means that no requester is present; nothing of it in UNINIT, and a copy in
NORMAL and QUIESCING alone; and a gap only before a later access of a host grant (R17, R40, R43, R44, R48, R139, R160). -/
structure State.PortSound (s : State) : Prop where
  accessUnderGrant : s.port.holder = (s.port.access.map Access.holder).getD .free
  freeNotAbandoned : s.port.holder = .free → s.port.abandoned = false
  awardOnFree : s.award.isSome = true → s.port.holder = .free
  decidedWhileFree : s.port.holder = .free → s.award = s.decision
  accessingMeansHost : s.host.state = .accessing ↔ (s.port.holder = .host ∧ s.port.abandoned = false)
  uninitIdle : s.mode = .uninit → s.award = none ∧ s.hostWaiting = false ∧ s.liveAccess = none
  copyModes : s.copy.isSome = true → s.mode = .normal ∨ s.mode = .quiescing
  openOnlyOutstanding : s.decisionOpen = true → s.award.isSome = true
  gapBeforeHostWrite : s.port.gap = true → s.port.abandoned = false ∧ s.port.access.any Access.followsInGrant = true

/-- A host READ's access that no warm reset has abandoned. -/
def State.hostReadInProgress (s : State) : Bool :=
  match s.liveAccess with
  | some (.hostRead _) => true
  | _ => false

/-- Whether a drain in progress writes the head entry's word with its encoded data (R65). -/
def State.drainWritesHead (s : State) : Bool :=
  match s.liveAccess with
  | some (.drainWrite word stored) =>
    s.writeBacks.head?.any fun w => w.word == word && stored == encode w.data
  | _ => true

/-- The Write-Back Queue: at most 8 entries, no two for one word, empty in UNINIT and QUIET; and why it has no overflow:
a host READ is never granted, and never reads, with 8 entries queued (R61, R64). -/
structure State.QueueSound (s : State) : Prop where
  atMost8 : s.writeBacks.length ≤ 8
  oneEntryPerWord : (s.writeBacks.map WriteBack.word).Nodup
  emptyUninit : s.mode = .uninit → s.writeBacks = []
  emptyQuiet : s.mode = .quiet → s.writeBacks = []
  roomForRead : s.hostReadInProgress = true → s.writeBacks.length ≤ 7
  roomWhilePassed : s.passed CycleRecord.writeBackPass = true →
    s.writeBacks.length ≤ 7 ∨ (s.port.holder = .step .drain ∧ s.port.abandoned = false)
  drainTakesHead : s.drainWritesHead = true

/-- The host's side of the part: the controller, the port and the queue together. Each rests on the others. -/
structure State.TrafficSound (s : State) : Prop where
  host : s.HostSound
  port : s.PortSound
  queue : s.QueueSound

/-! ### The end of a grant, and bits on the link -/

/-- The port FREE, with the decision that the requesters' state calls for, open to a take that is due (R48, R53). -/
def State.released (s : State) : State :=
  { s with port := MemoryPort.free, award := s.decision, decisionOpen := s.decision.isSome }

/-- The copy in flight aborted as CANCEL asks: the target slot is FREE, the source's entry is back in WATCH with deferred no
if it was MOVING, the engine is IDLE, and MIGRATION_FAILED with CANCELLED is appended (R107, R122, R151). -/
def State.aborted (s : State) (c : Copy) : State :=
  State.append
    { s with
      slots := s.slots.set c.target .free
      health := s.health.map fun place => place.map fun e =>
        if e.line = c.sourceLine ∧ e.state = .moving then { e with state := .watch, deferred := false } else e
      copy := none }
    (.migrationFailed c.home .cancelled)

/-- QUIESCING becomes QUIET, with QUIET_REACHED, where the engine is IDLE and the Write-Back Queue is empty (R167). -/
def State.quieted (s : State) : State :=
  if s.mode = .quiescing ∧ s.copy = none ∧ s.writeBacks = [] then
    State.append { s with mode := .quiet } .quietReached
  else s

/-- What ends every grant once the holder's own actions are done: a pending abort is made (R149), the quiesce conditions are
looked at (R167), and the port is released (R53). The order is the model's (assumption 11). -/
def State.ended (s : State) : State :=
  match s.copy with
  | some c => if c.abortPending then (s.aborted c).quieted.released else s.quieted.released
  | none => s.quieted.released

/-- The decision made if the port is FREE (R48). -/
def State.decidedIfFree (s : State) : State :=
  { s with award := if s.port.holder = .free then s.decision else s.award }

/-- The controller after a response: RESPONDING with its lines driven, HERR for a refusal and for an uncorrectable read, or
IDLE when HSTB has been deasserted since the strobe (R15, R16, R36). -/
def State.answered (s : State) (r : CycleRecord) (outcome : HostOutcome) (hd : Option DataWord) : HostPort :=
  if s.strobeHeld then
    { state := .responding, record := some { r with outcome := some outcome }, hrdy := true,
      herr := (match outcome with
        | .okay => false
        | .refused _ | .uncorrectable _ => true),
      hd := hd }
  else { state := .idle, record := none, hrdy := false, herr := false, hd := none }

/-- The bits of a byte in the order in which they travel: most significant first (R188). -/
def bitsOf (b : Byte) : List Bool := (List.range 8).map fun i => b.getLsbD (7 - i)

/-- The rising edges of MSCK that carry some bytes (R188). -/
def edgesOf (bytes : List Byte) : List Instr := (bytes.flatMap bitsOf).map Instr.msckRisingEdge

/-- Commands one after another. -/
def execAll : List Instr → State → Host.Outcome State Fault Refusal
  | [], s => .next s
  | c :: rest, s =>
    match exec c s with
    | .next t => execAll rest t
    | .fault r => .fault r
    | .refused r => .refused r

/-- The row of the opcode table that stands for a management command with its argument bytes. -/
def rowOf (c : Command) (args : List Byte) : Instr :=
  match c with
  | .identify => .identify
  | .readStatus => .readStatus
  | .readSetting => .readSetting (argument args 0)
  | .writeSetting => .writeSetting (argument args 0) (BitVec.ofNat 16 (fromBytes (args.drop 1)))
  | .readSlot => .readSlot (argument args 0)
  | .readHealth => .readHealth (argument args 0)
  | .readMigration => .readMigration (argument args 0)
  | .peekReport => .peekReport
  | .popReport => .popReport
  | .mapPreset => .mapPreset (BitVec.ofNat 24 (fromBytes args))
  | .unmapSlot => .unmapSlot (argument args 0)
  | .migrate => .migrate (BitVec.ofNat 24 (fromBytes args))
  | .cancel => .cancel (BitVec.ofNat 24 (fromBytes args))
  | .clearHealth => .clearHealth
  | .startSweep => .startSweep
  | .adopt => .adopt
  | .quiesce => .quiesce
  | .resume => .resume
  | .resetCold => .resetCold

/-- Every invariant of this file. -/
structure State.Sound (s : State) : Prop where
  reports : s.ReportsSound
  array : s.ArraySound
  patrol : s.PatrolSound
  sweep : s.SweepSound
  health : s.HealthSound
  map : s.MapSound
  traffic : s.TrafficSound

end Sys2Proof.Machine
end

