-- ==== Sys2Proof/Certificates/Slice0/Obligations.lean ====
section
/-! DEFINITION. The statements for the provers. Each says in its docstring which rules of the manual it formalises. A
statement about a command's effect gives the whole next state: what it does not name is unchanged. The premise
`s.award = none` says that no decision of the arbiter is outstanding; `Obligations.DecisionsAreCarriedOut` says what happens
where one is. -/

open Sys2Proof Sys2Proof.Machine

/-! ### The block as a whole -/

/-- A step carries out the command at the front of the queue on the state with the queue's rest. With no command waiting the
block idles, and a host grant's next access that has not begun begins (R43); that it is there that time passes is the model's
choice (assumptions 9 and 21). -/
def Obligations.StepRunsFrontCommand : Prop :=
  ∀ s : State,
    (∀ c rest, s.pending = c :: rest → step s = exec c { s with pending := rest }) ∧
    (s.pending = [] → step s = .next { s with port := { s.port with gap := false } })

/-- A grant is made at the decision's own instant (R48): every command but the grants' own rows meets the state in which
an outstanding grant has been made, and the row of the decided grant makes it. That the decision and its grant are two
commands is the model's choice (assumption 6). A take that is due may still come between a release and its decision (R53;
assumption 10): `Obligations.TakeOutcomes` says what it does there. -/
def Obligations.DecisionsAreCarriedOut : Prop :=
  ∀ s : State,
    (∀ c : Instr, c ∉ [.hostGrant, .drainGrant, .patrolGrant, .copyGrant, .sweepGrant] →
      (c = .take → s.decisionOpen = false ∨ s.copy ≠ none ∨ s.mode ≠ .normal ∨ s.migrations = []) →
      exec c s = exec c s.settled) ∧
    (∀ a : Award, s.award = some a →
      exec (match a.grantee with
        | .host => .hostGrant
        | .step .drain => .drainGrant
        | .step .patrol => .patrolGrant
        | .step .copy => .copyGrant
        | .step .sweep => .sweepGrant) s = .next s.settled) ∧
    s.settled.award = none

/-- No command touches the model's queue, and an input line's level changes at that line's own commands alone
(assumption 1). -/
def Obligations.LinesAndQueueFrame : Prop :=
  ∀ (c : Instr) (s t : State), exec c s = .next t →
    t.pending = s.pending ∧
    ((∀ a w e d, c ≠ .hostStrobe a w e d) → c ≠ .hstbDeassert → t.hstb = s.hstb) ∧
    (c ≠ .hresetAssert → c ≠ .hresetDeassert → t.hreset = s.hreset) ∧
    (c ≠ .poresetAssert → c ≠ .poresetDeassert → t.poreset = s.poreset) ∧
    (c ≠ .frameBegin → c ≠ .frameEnd → c ≠ .resetCold → t.mcs = s.mcs)

/-- Every word of the array reads as before after any command, except the word of the access that is in progress when the
command arrives (R43: an access is the only way to the array, and an access is of one word). -/
def Obligations.ArrayFrame : Prop :=
  (∀ x : Access, x.word = match x with
    | .hostRead a | .inlineWriteBack a _ | .mergeRead a | .hostWrite a _ | .targetWrite a _ | .drainWrite a _
    | .patrolRead a | .patrolWrite a _ | .copyRead a | .copyWrite a _ _ | .sweepWrite a _ => a) ∧
  ∀ (c : Instr) (s t : State) (a : Nat), exec c s = .next t →
    (∀ x, s.settled.port.access = some x → x.word ≠ a) →
    getCell t.cells a = getCell s.cells a

/-- The settings hold their values through every command but the writes of settings, the edge of MSCK that may end in one,
and the cold resets (R174, R196). -/
def Obligations.SettingsFrame : Prop :=
  ∀ (c : Instr) (s t : State), exec c s = .next t →
    (∀ i v, c ≠ .writeSetting i v) → (∀ v, c ≠ .writeMemoryLinesLog2 v) → (∀ v, c ≠ .writeSpareCount v) →
    (∀ v, c ≠ .writePatrolInterval v) → (∀ v, c ≠ .writeDebtLimit v) → (∀ v, c ≠ .writeMigrateThreshold v) →
    (∀ v, c ≠ .writeMigrateOnUncorrectable v) → (∀ v, c ≠ .writeAgePasses v) → (∀ v, c ≠ .writeAlertMask v) →
    (∀ b, c ≠ .msckRisingEdge b) → c ≠ .poresetAssert → c ≠ .resetCold → c ≠ .frameEnd →
    t.settings = s.settings

/-! ### Invariants -/

/-- Every step keeps the Report Queue and ALERT sound (R176, R178, R183). -/
def Obligations.ReportQueueKept : Prop :=
  ∀ s t : State, s.ReportsSound → step s = .next t → t.ReportsSound

/-- Every step keeps the canonical form of the array's list. That the array is a list of words in rising order is the model's
own representation (assumption 3). -/
def Obligations.ArrayFormKept : Prop :=
  ∀ s t : State, s.ArraySound → step s = .next t → t.ArraySound

/-- Every step keeps the patrol's cursor in the array, its debt within the limit and 0 outside NORMAL, its timer below the
interval, and the starvation counter at 16 or below (R51, R75, R77, R90). -/
def Obligations.PatrolBoundsKept : Prop :=
  ∀ s t : State, s.PatrolSound → step s = .next t → t.PatrolSound

/-- Every step keeps the sweep cursor in the array and the sweep's steps to SWEEPING (R46, R158). The premise about the
traffic rules out an access on a FREE port; `Obligations.TrafficKept` states it. -/
def Obligations.SweepBoundsKept : Prop :=
  ∀ s t : State, s.SweepSound → s.TrafficSound → step s = .next t → t.SweepSound

/-- Every step keeps 32 places, no two entries for one line, and counts of at most 255 (R94, R96). -/
def Obligations.HealthTableKept : Prop :=
  ∀ s t : State, s.HealthSound → step s = .next t → t.HealthSound

/-- Every step keeps the map, the migration queue and the context in agreement (R115, R116, R132, R135). The premise about
the traffic rules out an access or a waiting cycle in UNINIT; `Obligations.TrafficKept` states it. -/
def Obligations.MapAndEngineKept : Prop :=
  ∀ s t : State, s.MapSound → s.TrafficSound → step s = .next t → t.MapSound

/-- Every step keeps the Host Port Controller, the port, the arbiter's decision and the Write-Back Queue in agreement: in
particular the queue never holds more than 8 entries, though nothing guards its append (R17, R44, R48, R61, R64). -/
def Obligations.TrafficKept : Prop :=
  ∀ s t : State, s.TrafficSound → step s = .next t → t.TrafficSound

/-- Every invariant holds after reset, and a cold reset of that state leaves it as it is, so that what
`Obligations.ColdResetClears` writes out is what reset leaves. The array's contents and the levels of the input lines at reset
are the model's choices (assumptions 1 and 3). -/
def Obligations.ResetIsSound : Prop :=
  State.reset.Sound ∧ exec .poresetAssert State.reset = .next { State.reset with poreset := true }

/-! ### The check code -/

/-- The columns, the class table, and what each class returns: encoded data reads back CLEAN with itself as repaired word; the
check value of one data bit is its column, and check values add; a syndrome's class is the class table's, all 128 values of
it, the data bit that a SINGLE_DATA syndrome names is inverted, the other classes return the stored data, and POISONED, DOUBLE
and MULTI are flagged (R2, R3, R4, R5, R6, R7). The 32 data bits are the low bits of a stored word, the 7 check bits the high
ones (R1); SINGLE_DATA and SINGLE_CHECK are the corrected errors, DOUBLE and MULTI the others (R95). -/
def Obligations.EncodedWordsReadClean : Prop :=
  let columns : List CheckBits :=
    [7, 11, 13, 14, 19, 21, 22, 25, 26, 28, 35, 37, 38, 41, 42, 44, 49, 50, 52, 56, 67, 69, 70, 73, 74, 76, 81, 82, 84, 88,
      97, 98]
  let multi : List CheckBits :=
    [100, 104, 112, 31, 47, 55, 59, 61, 62, 79, 87, 91, 93, 94, 103, 107, 109, 110, 115, 117, 118, 121, 122, 124]
  (∀ data : DataWord,
    syndrome (encode data) = 0#7 ∧
    decode (encode data) = { cls := .clean, data := data, flag := false, repaired := encode data }) ∧
  (∀ i < 32, generatedCheck (BitVec.twoPow 32 i) = columns.getD i 0#7) ∧
  (∀ a b : DataWord, generatedCheck (a ^^^ b) = generatedCheck a ^^^ generatedCheck b) ∧
  (∀ w : StoredWord,
    let c := syndrome w
    let d := decode w
    c = storedCheck w ^^^ generatedCheck (storedData w) ∧
    d.cls =
      (if c = 0#7 then .clean
      else if c ∈ [1#7, 2#7, 4#7, 8#7, 16#7, 32#7, 64#7] then .singleCheck
      else if c ∈ columns then .singleData
      else if c = 127#7 then .poisoned
      else if c ∈ multi then .multi
      else .double) ∧
    (d.flag = true ↔ d.cls = .poisoned ∨ d.cls = .double ∨ d.cls = .multi) ∧
    (∀ i < 32, c = columns.getD i 0#7 → namedDataBit c = some i ∧ d.data = storedData w ^^^ BitVec.twoPow 32 i) ∧
    (c ∉ columns → namedDataBit c = none ∧ d.data = storedData w) ∧
    d.repaired = encode d.data) ∧
  (∀ (w : StoredWord) (check : CheckBits) (data : DataWord),
    (∀ i < 39, w.getLsbD i = if i < 32 then (storedData w).getLsbD i else (storedCheck w).getLsbD (i - 32)) ∧
    storedData (storeWord check data) = data ∧ storedCheck (storeWord check data) = check ∧
    encode data = storeWord (generatedCheck data) data) ∧
  (∀ c : DecodeClass, c.error = match c with
    | .singleData => some .singleData
    | .singleCheck => some .singleCheck
    | .double => some .double
    | .multi => some .multi
    | .clean | .poisoned => none) ∧
  (∀ c : ErrorClass, c.corrected = true ↔ c = .singleData ∨ c = .singleCheck)

/-- R11: every single inverted position has its own column as syndrome, is named for what it is and corrected; every two give a
syndrome of even weight that is not 0, and are DOUBLE and flagged; neither is ever POISONED; and a poison marker with one
inverted position has a syndrome of weight 4 or 6, and is DOUBLE and flagged with its raw data. -/
def Obligations.CodeGuarantees : Prop :=
  ∀ (data : DataWord) (i : Nat), i < 39 →
    let ones (c : CheckBits) : Nat := ((List.range 7).filter fun j => c.getLsbD j).length
    let struck := encode data ^^^ BitVec.twoPow 39 i
    let marker := poisonMarker data ^^^ BitVec.twoPow 39 i
    syndrome struck = (if i < 32 then dataColumns.getD i 0#7 else BitVec.twoPow 7 (i - 32)) ∧
    (i < 32 → namedDataBit (syndrome struck) = some i) ∧
    decode struck =
      { cls := if i < 32 then .singleData else .singleCheck, data := data, flag := false,
        repaired := encode data } ∧
    syndrome struck ≠ 127#7 ∧
    (∀ j < 39, i ≠ j →
      let w := struck ^^^ BitVec.twoPow 39 j
      ones (syndrome w) % 2 = 0 ∧ syndrome w ≠ 0#7 ∧ syndrome w ≠ 127#7 ∧
      (decode w).cls = .double ∧ (decode w).data = storedData w ∧ (decode w).flag = true) ∧
    (ones (syndrome marker) = 4 ∨ ones (syndrome marker) = 6) ∧
    (decode marker).cls = .double ∧ (decode marker).data = storedData marker ∧ (decode marker).flag = true

/-- R8: the poison marker over some data, its syndrome and its decode, and that the marker over the raw data of a POISONED
word is that word. -/
def Obligations.PoisonMarkers : Prop :=
  (∀ data : DataWord,
    poisonMarker data = storeWord (generatedCheck data ^^^ 127#7) data ∧
    storedData (poisonMarker data) = data ∧
    storedCheck (poisonMarker data) = ~~~ storedCheck (encode data) ∧
    syndrome (poisonMarker data) = 127#7 ∧
    (decode (poisonMarker data)).cls = .poisoned ∧ (decode (poisonMarker data)).data = data ∧
    (decode (poisonMarker data)).flag = true) ∧
  (∀ w : StoredWord, (decode w).cls = .poisoned → poisonMarker (storedData w) = w)

/-! ### The array and the Report Queue -/

/-- A write is read back at its word and leaves every other word alone; a completed read gives what the array holds, with the
cells that changed of themselves, and leaves that in the word and every other word alone (R43, R142). That such changes come
with the read and stay is read from R142 (assumption 19), and that a word without defined contents keeps the bits its first
read found is the model's choice (assumption 4). An access drives the lines of its kind, its address and, for a write, its
word, and between accesses, on a FREE port and in the gap before a host grant's next access, the lines are deasserted and MD is
released (R43); that no address stands on MA between accesses is the model's choice (assumption 22). -/
def Obligations.ArrayReadsWhatWasWritten : Prop :=
  (∀ (s : State) (a b : Nat) (w : StoredWord),
    getCell (setCell s.cells a w) b = (if b = a then some w else getCell s.cells b) ∧
    s.writeCell a w = { s with cells := setCell s.cells a w } ∧
    (s.readCells a w).2 = { s with
      cells := setCell s.cells a (s.readCells a w).1
      freeIndex := if getCell s.cells a = none then s.freeIndex + 1 else s.freeIndex } ∧
    (∀ v, getCell s.cells a = some v → (s.readCells a w).1 = v ^^^ w)) ∧
  (∀ s : State,
    let reads (a : Nat) : MemoryLines :=
      { mce := true, moe := true, mwe := false, ma := some (BitVec.ofNat 22 a), md := none }
    let writes (a : Nat) (w : StoredWord) : MemoryLines :=
      { mce := true, moe := false, mwe := true, ma := some (BitVec.ofNat 22 a), md := some w }
    s.memoryLinesDriven =
      match (if s.port.gap then none else s.port.access) with
      | none => { mce := false, moe := false, mwe := false, ma := none, md := none }
      | some (.hostRead a) | some (.mergeRead a) | some (.patrolRead a) | some (.copyRead a) => reads a
      | some (.inlineWriteBack a w) | some (.hostWrite a w) | some (.targetWrite a w) | some (.drainWrite a w)
      | some (.patrolWrite a w) | some (.copyWrite a w _) | some (.sweepWrite a w) => writes a w)

/-- What a report handed to the queue becomes, by the queue's length and tail (R178), with ALERT re-evaluated at an append
alone, by the kinds of the records and ALERT_MASK, of which a LOST record asks nothing, and driven low exactly while it is
asserted (R177, R183). -/
def Obligations.ReportIsKeptCountedOrDropped : Prop :=
  ∀ (s : State) (r : Report),
    let pushed (x : Report) : State :=
      let rs := s.reports ++ [{ sequence := s.sequence, pass := s.patrol.pass, report := x }]
      { s with reports := rs, sequence := s.sequence + 1, alert := alertCondition s.settings.alertMask rs }
    (s.reports.length ≤ 14 → s.append r = pushed r) ∧
    (s.reports.length = 15 →
      (∀ front q p n, s.reports ≠ front ++ [{ sequence := q, pass := p, report := .lost n }]) →
      s.append r = pushed (.lost 1)) ∧
    (∀ front q p n, s.reports = front ++ [{ sequence := q, pass := p, report := .lost n }] →
      15 ≤ s.reports.length →
      s.append r = { s with
        reports := front ++ [{ sequence := q, pass := p, report := .lost (min 255 (n + 1)) }] }) ∧
    (∀ (mask : BitVec 10) (records : List ReportRecord),
      alertCondition mask records = records.any fun x => match x.report with
        | .newWeakLine .. => mask.getLsbD 0
        | .uncorrectable .. => mask.getLsbD 1
        | .hostRefused .. => mask.getLsbD 2
        | .migrationDone .. => mask.getLsbD 3
        | .migrationFailed .. => mask.getLsbD 4
        | .migrationDeferred .. => mask.getLsbD 5
        | .healthFull .. => mask.getLsbD 6
        | .sweepDone .. => mask.getLsbD 7
        | .quietReached => mask.getLsbD 8
        | .warmReset .. => mask.getLsbD 9
        | .lost .. => true) ∧
    s.alertDriven = (if s.alert then some false else none)

/-! ### Host cycles -/

/-- The kind of a cycle by its direction and byte enables: READ for a read, and for a write FULL WRITE with all four enables
asserted, NULL WRITE with none, and PARTIAL WRITE with one, two or three (R18). -/
def Obligations.CyclesAreClassified : Prop :=
  ∀ (isWrite : Bool) (enables : BitVec 4) (data : DataWord),
    cycleKind isWrite enables data =
      match isWrite, enables.toNat with
      | false, _ => .read
      | true, 15 => .fullWrite data
      | true, 0 => .nullWrite data
      | true, _ => .partialWrite data

/-- An admitted READ, FULL WRITE or PARTIAL WRITE: the record is captured and translated, and the cycle waits; with the port
FREE, where nothing else is present, it is granted at its own arrival (R14, R19, R24, R48, R56). -/
def Obligations.AdmittedStrobeWaits : Prop :=
  ∀ (s : State) (address : HostAddress) (isWrite : Bool) (enables : BitVec 4) (data : DataWord),
    s.award = none → s.hstb = false → s.host.state = .idle → s.hreset = false → s.poreset = false →
    s.mode ≠ .uninit → address.toNat / 8 < s.poolBase →
    (s.mode = .sweeping → s.translate (address.toNat / 8) < s.sweepLine) →
    (isWrite = true → enables ≠ 0#4) →
    (s.port.holder = .free → s.decision = none) →
    exec (.hostStrobe address isWrite enables data) s = .next { s with
      hstb := true
      strobeHeld := true
      host := { s.host with
        state := .waiting
        record := some
          { address := address, kind := cycleKind isWrite enables data, enables := enables,
            writeBackPass := false, patrolPass := false, starvationPass := false, grantedInQuiet := false,
            word := some (s.translate (address.toNat / 8) * 8 + address.toNat % 8), outcome := none } }
      award := if s.port.holder = .free then some ⟨.host, .hostWaiting⟩ else none }

/-- A strobe that the tests of R19 refuse: the reason is the first test's that fails, a HOST_REFUSED report is appended,
and the error response is given at once, with HD driven with zero for a READ and not at all for a write (R19, R20, R37). -/
def Obligations.RefusedStrobeAnswers : Prop :=
  ∀ (s : State) (address : HostAddress) (isWrite : Bool) (enables : BitVec 4) (data : DataWord),
    s.award = none → s.hstb = false → s.host.state = .idle → s.hreset = false → s.poreset = false →
    ∀ reason word,
    ((s.mode = .uninit ∧ reason = .notReady ∧ word = none) ∨
     (s.mode ≠ .uninit ∧ s.poolBase ≤ address.toNat / 8 ∧ reason = .range ∧ word = none) ∨
     (s.mode = .sweeping ∧ address.toNat / 8 < s.poolBase ∧ s.sweepLine ≤ s.translate (address.toNat / 8) ∧
       reason = .notReady ∧ word = some (s.translate (address.toNat / 8) * 8 + address.toNat % 8))) →
    exec (.hostStrobe address isWrite enables data) s = .next (State.append
      { s with
        hstb := true
        strobeHeld := true
        host :=
          { state := .responding
            record := some
              { address := address, kind := cycleKind isWrite enables data, enables := enables,
                writeBackPass := false, patrolPass := false, starvationPass := false, grantedInQuiet := false,
                word := word, outcome := some (.refused reason) }
            hrdy := true
            herr := true
            hd := if isWrite then none else some 0#32 } }
      (.hostRefused address (if isWrite then .write else .read) reason))

/-- An admitted NULL WRITE completes OKAY at once: the response is given, and nothing else changes (R23). -/
def Obligations.NullWriteCompletes : Prop :=
  ∀ (s : State) (address : HostAddress) (data : DataWord),
    s.award = none → s.hstb = false → s.host.state = .idle → s.hreset = false → s.poreset = false →
    s.mode ≠ .uninit → address.toNat / 8 < s.poolBase →
    (s.mode = .sweeping → s.translate (address.toNat / 8) < s.sweepLine) →
    exec (.hostStrobe address true 0#4 data) s = .next { s with
      hstb := true
      strobeHeld := true
      host :=
        { state := .responding
          record := some
            { address := address, kind := .nullWrite data, enables := 0#4, writeBackPass := false,
              patrolPass := false, starvationPass := false, grantedInQuiet := false,
              word := some (s.translate (address.toNat / 8) * 8 + address.toNat % 8), outcome := some .okay }
          hrdy := true
          herr := false
          hd := none } }

/-- The edges of HSTB, HRESET and PORESET that start nothing. An assertion of HSTB that is no strobe changes its level alone
(R14, R16, R39, R42), and not what the response of a cycle in flight finds: after a deassertion that response finds HSTB
deasserted (R16; assumption 24). The deassertion of HSTB withdraws a response and returns the controller to IDLE, and leaves
a cycle in flight alone (R15, R16); the deassertion of HRESET lets an abandoned controller pass to IDLE (R41, R60, R171), and
that of PORESET changes its level alone (R203); an assertion of HRESET that changes no level, or comes under PORESET, is no
warm reset (the model's, assumption 8). -/
def Obligations.LinesThatStartNothing : Prop :=
  ∀ s : State, s.award = none →
    let idle : HostPort := { state := .idle, record := none, hrdy := false, herr := false, hd := none }
    (∀ address isWrite enables data,
      s.hstb = true ∨ s.host.state ≠ .idle ∨ s.hreset = true ∨ s.poreset = true →
      exec (.hostStrobe address isWrite enables data) s = .next { s with hstb := true }) ∧
    (s.host.state = .responding → exec .hstbDeassert s = .next { s with hstb := false, strobeHeld := false, host := idle }) ∧
    (s.host.state ≠ .responding → exec .hstbDeassert s = .next { s with hstb := false, strobeHeld := false }) ∧
    (s.host.state = .abandoned → exec .hresetDeassert s = .next { s with hreset := false, host := idle }) ∧
    (s.host.state ≠ .abandoned → exec .hresetDeassert s = .next { s with hreset := false }) ∧
    exec .poresetDeassert s = .next { s with poreset := false } ∧
    (s.hreset = true ∨ s.poreset = true → exec .hresetAssert s = .next { s with hreset := true })

/-- The HOST grant: the pass-over flags are cleared, the address is translated as the map stands, the counter rises by 1 up
to 16, and the first access of the cycle's kind begins (R21, R24, R25, R51, R52). The translation of a home line: the line
POOL_BASE plus the number of the ACTIVE slot that has it as home, and the line itself where none has (R115, R117); POOL_BASE is
2 to the power of MEMORY_LINES_LOG2, less SPARE_COUNT (R196). -/
def Obligations.HostGrantBegins : Prop :=
  (∀ (s : State) (home : Nat),
    s.memoryLines = 2 ^ s.settings.memoryLinesLog2 ∧
    s.poolBase = 2 ^ s.settings.memoryLinesLog2 - s.settings.spareCount ∧
    (∀ i o p, s.slots[i]? = some (.active home o p) →
      (∀ j o' p', s.slots[j]? = some (.active home o' p') → j = i) →
      s.activeSlot home = some i ∧ s.translate home = s.poolBase + i) ∧
    ((∀ (i : Nat) (o : Origin) (p : Pass), s.slots[i]? ≠ some (.active home o p)) →
      s.activeSlot home = none ∧ s.translate home = home)) ∧
  ∀ (s : State) (g : GrantCase) (r : CycleRecord),
    s.award = some ⟨.host, g⟩ → s.host.record = some r → (∀ d, r.kind ≠ .nullWrite d) →
    let word := s.translate (r.address.toNat / 8) * 8 + r.address.toNat % 8
    exec .hostGrant s = .next { s with
      award := none
      decisionOpen := false
      starvation := if s.starvation < 16 then s.starvation + 1 else 16
      host := { s.host with
        state := .accessing
        record := some { r with
          writeBackPass := false, patrolPass := false, starvationPass := false,
          grantedInQuiet := s.mode == .quiet, word := some word } }
      port :=
        { holder := .host
          access := some (match r.kind with
            | .fullWrite d => .hostWrite word (encode d)
            | .partialWrite _ => .mergeRead word
            | _ => .hostRead word)
          gap := false
          abandoned := false } }

/-- A host READ whose word decodes as CLEAN is answered OKAY with the data (R15, R26, R37, R53): with HRDY alone and HD
driven while HSTB has stayed asserted since the strobe, and otherwise with the controller IDLE at once. Here and in every
statement about the last access of a grant, `ended` is the end of the grant: a pending abort, the quiesce conditions, the
release (its order: assumptions 11 and 12). -/
def Obligations.CleanReadAnswers : Prop :=
  ∀ (s : State) (r : CycleRecord) (word : Nat) (changed : StoredWord),
    s.award = none → s.port.abandoned = false → s.port.access = some (.hostRead word) →
    s.host.record = some r →
    let found := s.readCells word changed
    (decode found.1).cls = .clean →
    (s.strobeHeld = true → s.answered r .okay (some (storedData found.1)) =
      { state := .responding, record := some { r with outcome := some .okay }, hrdy := true, herr := false,
        hd := (some (storedData found.1)) }) ∧
    (s.strobeHeld = false → s.answered r .okay (some (storedData found.1)) =
      { state := .idle, record := none, hrdy := false, herr := false, hd := none }) ∧
    exec (.hostReadComplete changed) s = .next
      (State.ended { found.2 with host := s.answered r .okay (some (storedData found.1)) })

/-- A host READ whose word decodes as POISONED is answered with the error response and the raw data, HRDY and HERR with HD
driven while HSTB has stayed asserted since the strobe, a HOST_REFUSED report is appended, no health event is raised, and the
word is left as found (R15, R30, R37); then the grant ends: a pending abort is made, QUIET is reached where its conditions
hold, and the port is released (R53, R149, R167), in the model's order (assumptions 11 and 12). -/
def Obligations.PoisonedReadRefused : Prop :=
  ∀ (s : State) (r : CycleRecord) (word : Nat) (changed : StoredWord),
    s.award = none → s.port.abandoned = false → s.port.access = some (.hostRead word) →
    s.host.record = some r →
    let found := s.readCells word changed
    (decode found.1).cls = .poisoned →
    (s.strobeHeld = true → s.answered r (.refused .poisoned) (some (storedData found.1)) =
      { state := .responding, record := some { r with outcome := some (.refused .poisoned) }, hrdy := true, herr := true,
        hd := (some (storedData found.1)) }) ∧
    (s.strobeHeld = false → s.answered r (.refused .poisoned) (some (storedData found.1)) =
      { state := .idle, record := none, hrdy := false, herr := false, hd := none }) ∧
    exec (.hostReadComplete changed) s = .next
      ((State.append { found.2 with host := s.answered r (.refused .poisoned) (some (storedData found.1)) }
        (.hostRefused r.address .read .poisoned)).ended)

/-- A corrected host READ outside QUIET, and outside the exception of R38: OKAY with the decoded data, a write-back request
that is appended unless its word is queued, and a health event (R27, R38, R62, R63). That the READ is so answered in SWEEPING
also where it was granted in NORMAL or QUIESCING is the model's choice (assumption 25). -/
def Obligations.CorrectedReadQueuesWriteBack : Prop :=
  ∀ (s : State) (r : CycleRecord) (word : Nat) (changed : StoredWord) (cls : ErrorClass),
    s.award = none → s.port.abandoned = false → s.port.access = some (.hostRead word) →
    s.host.record = some r → s.mode ≠ .quiet →
    (r.grantedInQuiet = true → s.mode ≠ .sweeping) →
    let found := s.readCells word changed
    let d := decode found.1
    d.cls.error = some cls → cls.corrected = true →
    exec (.hostReadComplete changed) s = .next
      ((State.correctedRead
        { found.2 with
          host := s.answered r .okay (some d.data)
          writeBacks :=
            if word ∈ s.writeBacks.map WriteBack.word then s.writeBacks
            else s.writeBacks ++ [{ word := word, data := d.data }] }
        word cls .host).ended)

/-- A host READ whose word decodes as DOUBLE or MULTI: the error response with the raw data, HRDY and HERR with HD driven
while HSTB has stayed asserted since the strobe, an UNCORRECTABLE report and a health event, and the word left as found (R15,
R29, R37). Which report comes first where the table appends one too is open (assumption 5). -/
def Obligations.UncorrectableReadReported : Prop :=
  ∀ (s : State) (r : CycleRecord) (word : Nat) (changed : StoredWord) (cls : ErrorClass),
    s.award = none → s.port.abandoned = false → s.port.access = some (.hostRead word) →
    s.host.record = some r →
    let found := s.readCells word changed
    (decode found.1).cls.error = some cls → cls.corrected = false →
    (s.strobeHeld = true → s.answered r (.uncorrectable cls) (some (storedData found.1)) =
      { state := .responding, record := some { r with outcome := some (.uncorrectable cls) }, hrdy := true, herr := true,
        hd := (some (storedData found.1)) }) ∧
    (s.strobeHeld = false → s.answered r (.uncorrectable cls) (some (storedData found.1)) =
      { state := .idle, record := none, hrdy := false, herr := false, hd := none }) ∧
    exec (.hostReadComplete changed) s = .next
      ((State.uncorrectableRead
        { found.2 with host := s.answered r (.uncorrectable cls) (some (storedData found.1)) }
        (.uncorrectable word (cls == .multi) .host) word cls .host).ended)

/-- A corrected READ in QUIET, or granted in QUIET and met by START_SWEEP, writes its repaired word within its own grant and
makes no write-back request; the write supersedes, and the response follows it (R28, R34, R38, R71). The write is
next in the grant, and whether it begins at the very completion of the read is open (R40; assumption 21). -/
def Obligations.QuietReadRepairsInline : Prop :=
  (∀ (s : State) (r : CycleRecord) (word : Nat) (changed : StoredWord) (cls : ErrorClass),
    s.award = none → s.port.abandoned = false → s.port.access = some (.hostRead word) →
    s.host.record = some r →
    (s.mode = .quiet ∨ (r.grantedInQuiet = true ∧ s.mode = .sweeping)) →
    let found := s.readCells word changed
    (decode found.1).cls.error = some cls → cls.corrected = true →
    ∃ gap : Bool, exec (.hostReadComplete changed) s = .next
      { found.2.correctedRead word cls .host with
        port := { s.port with access := some (.inlineWriteBack word (encode (decode found.1).data)), gap := gap }
        freeIndex := found.2.freeIndex + 1 }) ∧
  (∀ (s : State) (r : CycleRecord) (word : Nat) (stored : StoredWord),
    s.award = none → s.port.abandoned = false → s.port.access = some (.inlineWriteBack word stored) →
    s.host.record = some r →
    exec .inlineWriteBackComplete s = .next
      (State.ended { s with
        cells := setCell s.cells word stored
        writeBacks := s.writeBacks.filter fun w => w.word != word
        host := s.answered r .okay (some (storedData stored)) }))

/-- A PARTIAL WRITE over a CLEAN or corrected word: the merged word's write is next in the same grant, each enabled lane from
the write data and every other lane from the decoded data; a corrected word raises its health event (R32). Whether
that write begins at the very completion of the read is open (R40; assumption 21). -/
def Obligations.MergeIsMade : Prop :=
  ∀ (s : State) (r : CycleRecord) (word : Nat) (changed : StoredWord) (data : DataWord),
    s.award = none → s.port.abandoned = false → s.port.access = some (.mergeRead word) →
    s.host.record = some r → r.kind = .partialWrite data →
    let found := s.readCells word changed
    let d := decode found.1
    d.flag = false →
    ∃ (merged : DataWord) (gap : Bool),
      (∀ i < 32, merged.getLsbD i = if r.enables.getLsbD (i / 8) then data.getLsbD i else d.data.getLsbD i) ∧
      let t : State := match d.cls with
        | .singleData => found.2.correctedRead word .singleData .host
        | .singleCheck => found.2.correctedRead word .singleCheck .host
        | _ => found.2
      exec (.partialWriteReadComplete changed) s = .next { t with
        port := { s.port with access := some (.hostWrite word (encode merged)), gap := gap }
        freeIndex := found.2.freeIndex + 1 }

/-- A PARTIAL WRITE over a lost word is refused: the error response without data, a HOST_REFUSED report with MERGE_REFUSED, a
health event for DOUBLE and MULTI alone, and nothing written (R33, R145). Which report comes first where the table appends
one too is open (assumption 5). -/
def Obligations.MergeIsRefused : Prop :=
  ∀ (s : State) (r : CycleRecord) (word : Nat) (changed : StoredWord) (data : DataWord),
    s.award = none → s.port.abandoned = false → s.port.access = some (.mergeRead word) →
    s.host.record = some r → r.kind = .partialWrite data →
    let found := s.readCells word changed
    let ended : State := { found.2 with host := s.answered r (.refused .mergeRefused) none }
    let own : Report := .hostRefused r.address .write .mergeRefused
    (decode found.1).flag = true →
    (s.strobeHeld = true → s.answered r (.refused .mergeRefused) none =
      { state := .responding, record := some { r with outcome := some (.refused .mergeRefused) }, hrdy := true, herr := true,
        hd := none }) ∧
    (s.strobeHeld = false → s.answered r (.refused .mergeRefused) none =
      { state := .idle, record := none, hrdy := false, herr := false, hd := none }) ∧
    exec (.partialWriteReadComplete changed) s = .next
      (match (decode found.1).cls with
        | .double => (ended.uncorrectableRead own word .double .host).ended
        | .multi => (ended.uncorrectableRead own word .multi .host).ended
        | _ => (ended.append own).ended)

/-- A host write completes: the word is held, its queue entry superseded, and the response given; but where the word lies in
the source line of a copy in flight, below its cursor, the same word is written to the target first, within the same grant,
and that second write supersedes nothing (R31, R34, R67, R144). Whether the second write begins at the very completion of
the first is open (R40; assumption 21). -/
def Obligations.HostWriteEnds : Prop :=
  ∀ (s : State) (r : CycleRecord) (word : Nat) (stored : StoredWord),
    s.award = none → s.port.abandoned = false → s.host.record = some r →
    (s.port.access = some (.hostWrite word stored) →
      ((∀ c, s.copy = some c → ¬ (word / 8 = c.sourceLine ∧ word % 8 < c.cursor)) →
        exec .hostWriteComplete s = .next
          (State.ended { s with
            cells := setCell s.cells word stored
            writeBacks := s.writeBacks.filter fun w => w.word != word
            host := s.answered r .okay none })) ∧
      (∀ c, s.copy = some c → word / 8 = c.sourceLine → word % 8 < c.cursor →
        ∃ gap : Bool, exec .hostWriteComplete s = .next { s with
          cells := setCell s.cells word stored
          writeBacks := s.writeBacks.filter fun w => w.word != word
          port := { s.port with
            access := some (.targetWrite ((s.poolBase + c.target) * 8 + word % 8) stored), gap := gap }
          freeIndex := s.freeIndex + 1 })) ∧
    (s.port.access = some (.targetWrite word stored) →
      exec .targetWriteComplete s = .next
        (State.ended { s with
          cells := setCell s.cells word stored
          host := s.answered r .okay none }))

/-- An access that a warm reset left running completes: a write is held, a read's decode is discarded, and the port becomes
FREE; nothing else follows from it (R40, R59, R91, R155, R172). That the end of the abandoned grant makes an abort that CANCEL
has left pending on a copy taken since is the model's reading of R148 and R149 (assumption 12). -/
def Obligations.AbandonedAccessEnds : Prop :=
  ∀ (s : State) (x : Access),
    s.award = none → s.port.abandoned = true → s.port.access = some x →
    exec .abandonedAccessComplete s = .next
      (State.ended { s with
        cells := match x with
          | .hostRead _ | .mergeRead _ | .patrolRead _ | .copyRead _ => s.cells
          | .inlineWriteBack a w | .hostWrite a w | .targetWrite a w | .drainWrite a w | .patrolWrite a w
          | .copyWrite a w _ | .sweepWrite a w => setCell s.cells a w })

/-! ### The arbiter and the grants of the internal steps -/

/-- The arbiter's decision: the first of the five cases that applies, and none when no requester is present (R46, R47,
R49). The presence and urgency of each requester are written out. -/
def Obligations.DecisionFollowsTheCases : Prop :=
  ∀ s : State,
    let waiting := s.host.state = .waiting
    let flagged (flag : CycleRecord → Bool) := waiting ∧ ∃ r, s.host.record = some r ∧ flag r = true
    let drain := s.writeBacks ≠ []
    let copy := s.copy ≠ none
    let patrol := 1 ≤ s.patrol.debt ∧ s.mode = .normal
    let sweep := s.mode = .sweeping
    let first (w : Step) :=
      (w = .drain ∧ drain) ∨ (w = .copy ∧ ¬ drain ∧ copy) ∨ (w = .patrol ∧ ¬ drain ∧ ¬ copy ∧ patrol) ∨
        (w = .sweep ∧ ¬ drain ∧ ¬ copy ∧ ¬ patrol ∧ sweep)
    let case1 := s.writeBacks.length = 8 ∧ ¬ flagged CycleRecord.writeBackPass
    let case2 := patrol ∧ s.patrol.debt = s.settings.debtLimit ∧ ¬ flagged CycleRecord.patrolPass
    let case3 := s.starvation = 16 ∧ (∃ w, first w) ∧ ¬ flagged CycleRecord.starvationPass
    (case1 → s.decision = some ⟨.step .drain, .urgentDrain⟩) ∧
    (¬ case1 → case2 → s.decision = some ⟨.step .patrol, .urgentPatrol⟩) ∧
    (∀ w, ¬ case1 → ¬ case2 → case3 → first w → s.decision = some ⟨.step w, .starvation⟩) ∧
    (¬ case1 → ¬ case2 → ¬ case3 → waiting → s.decision = some ⟨.host, .hostWaiting⟩) ∧
    (∀ w, ¬ case1 → ¬ case2 → ¬ case3 → ¬ waiting → first w → s.decision = some ⟨.step w, .background⟩) ∧
    (¬ waiting → (∀ w, ¬ first w) → s.decision = none)

/-- The grants of W, P, M and S: a waiting cycle's flag for the case of the grant is set, the write-back pass for case 1, the
patrol pass for case 2, the starvation pass for case 3, and none for another case, the starvation counter returns to 0, and
the step's first access begins at the word that the requester's own state names. At the grant of P debt falls by 1 and a
cursor on a line that is not of record moves on first (R50, R51, R52, R65, R80, R139, R162). -/
def Obligations.StepGrantsBegin : Prop :=
  ∀ (s : State) (g : GrantCase),
    let granted (t : State) (which : Step) (x : Access) : State :=
      { t with
        award := none
        decisionOpen := false
        starvation := 0
        host :=
          if s.host.state = .waiting then
            { s.host with
              record := s.host.record.map fun r => match g with
                | .urgentDrain => { r with writeBackPass := true }
                | .urgentPatrol => { r with patrolPass := true }
                | .starvation => { r with starvationPass := true }
                | .hostWaiting | .background => r }
          else s.host
        port := { holder := .step which, access := some x, gap := false, abandoned := false } }
    (∀ w rest, s.award = some ⟨.step .drain, g⟩ → s.writeBacks = w :: rest →
      exec .drainGrant s = .next (granted s .drain (.drainWrite w.word (encode w.data)))) ∧
    (s.award = some ⟨.step .patrol, g⟩ →
      let moved := if s.ofRecord s.patrol.line then s else s.nextLine
      exec .patrolGrant s = .next (granted
        { moved with patrol := { moved.patrol with debt := s.patrol.debt - 1 } } .patrol
        (.patrolRead (moved.patrol.line * 8 + moved.patrol.index)))) ∧
    (∀ c, s.award = some ⟨.step .copy, g⟩ → s.copy = some c →
      exec .copyGrant s = .next (granted s .copy (.copyRead (c.sourceLine * 8 + c.cursor)))) ∧
    (s.award = some ⟨.step .sweep, g⟩ →
      exec .sweepGrant s = .next (granted s .sweep (.sweepWrite (s.sweepLine * 8 + s.sweepIndex) 0#39)))

/-- A row that names what is not happening changes nothing: a grant that is not the decided one, a completion of any access
but the one in progress, or of one whose grant a warm reset abandoned, a take or an expiry that is not due, and a management
command in which the frame in progress cannot end: one that awaits other bytes, or that is past its execution. That such a row
is met at all is the model's (assumption 7). -/
def Obligations.RowsNotDueChangeNothing : Prop :=
  ∀ s : State,
    (∀ c r, (c, r) ∈ [(Instr.hostGrant, Requester.host), (.drainGrant, .step .drain), (.patrolGrant, .step .patrol),
        (.copyGrant, .step .copy), (.sweepGrant, .step .sweep)] →
      (∀ a, s.award = some a → a.grantee ≠ r) → exec c s = .next s) ∧
    (s.award = none → ∀ changed,
      let live (x : Access) := s.port.abandoned = false ∧ s.port.access = some x
      ((∀ a, ¬ live (.hostRead a)) → exec (.hostReadComplete changed) s = .next s) ∧
      ((∀ a w, ¬ live (.inlineWriteBack a w)) → exec .inlineWriteBackComplete s = .next s) ∧
      ((∀ a, ¬ live (.mergeRead a)) → exec (.partialWriteReadComplete changed) s = .next s) ∧
      ((∀ a w, ¬ live (.hostWrite a w)) → exec .hostWriteComplete s = .next s) ∧
      ((∀ a w, ¬ live (.targetWrite a w)) → exec .targetWriteComplete s = .next s) ∧
      ((∀ a w, ¬ live (.drainWrite a w)) → exec .drainWriteComplete s = .next s) ∧
      ((∀ a, ¬ live (.patrolRead a)) → exec (.patrolReadComplete changed) s = .next s) ∧
      ((∀ a w, ¬ live (.patrolWrite a w)) → exec .patrolWriteComplete s = .next s) ∧
      ((∀ a, ¬ live (.copyRead a)) → exec (.copyReadComplete changed) s = .next s) ∧
      ((∀ a w d, ¬ live (.copyWrite a w d)) → exec .copyWriteComplete s = .next s) ∧
      ((∀ a w, ¬ live (.sweepWrite a w)) → exec .sweepWriteComplete s = .next s)) ∧
    (s.award = none → s.port.abandoned = false → exec .abandonedAccessComplete s = .next s) ∧
    (s.award = none → s.copy ≠ none ∨ s.mode ≠ .normal ∨ s.migrations = [] → exec .take s = .next s) ∧
    (s.award = none → s.mode ≠ .normal ∨ s.patrol.timer + 1 ≠ s.settings.patrolInterval →
      exec .intervalExpiry s = .next s) ∧
    (s.award = none → ∀ (c : Command) (args : List Byte), args.length = argumentCount c → c ≠ .resetCold →
      s.frame.awaits (commandCode c :: args) = false → exec (rowOf c args) s = .next s) ∧
    (s.award = none → ∀ v : BitVec 16,
      ∀ row ∈ [((0x01#8 : Byte), Instr.writeMemoryLinesLog2 v), (0x02#8, .writeSpareCount v),
        (0x03#8, .writePatrolInterval v), (0x04#8, .writeDebtLimit v), (0x05#8, .writeMigrateThreshold v),
        (0x06#8, .writeMigrateOnUncorrectable v), (0x07#8, .writeAgePasses v), (0x08#8, .writeAlertMask v)],
      s.frame.awaits (0x04#8 :: row.1 :: bigEndian 2 v.toNat) = false → exec row.2 s = .next s) ∧
    (s.award = none → ∀ code : Byte, commandNamed code ≠ none ∨ s.frame.awaits [code] = false →
      exec (.unknownCommand code) s = .next s) ∧
    (s.award = none →
      s.mcs = false ∨
        (s.frame.awaits [0x3C#8] = false ∧
          ¬ (s.frame.command = 0x3C#8 ∧ (s.frame.state = .response ∨ s.frame.state = .trailing))) →
      exec .resetCold s = .next s)

/-! ### The internal steps -/

/-- A drain write completes: the word is held, the head entry leaves the queue, and the grant ends (R53, R65). -/
def Obligations.DrainWriteEnds : Prop :=
  ∀ (s : State) (w : WriteBack) (rest : List WriteBack) (word : Nat) (stored : StoredWord),
    s.award = none → s.port.abandoned = false → s.port.access = some (.drainWrite word stored) →
    s.writeBacks = w :: rest →
    exec .drainWriteComplete s = .next
      (State.ended { s with cells := setCell s.cells word stored, writeBacks := rest })

/-- The patrol cursor: within a line it moves to the next word; from word 7 it moves to the next line of record, which the
search finds whatever lines lie between, and a search that passes the array's end ends the pass: the pass number rises by 1,
wrapping, and WATCH entries that are AGE_PASSES or older under the new number leave the table (R78, R79, R84, R94, R108). A
line below POOL_BASE is of record while no ACTIVE slot has it as home, a line of the pool while its slot is ACTIVE (R78). -/
def Obligations.CursorFindsNextLineOfRecord : Prop :=
  ∀ s : State,
    (∀ l, l < s.poolBase →
      (s.ofRecord l = true ↔ ∀ (i : Nat) (o : Origin) (p : Pass), s.slots[i]? ≠ some (.active l o p))) ∧
    (∀ l, s.poolBase ≤ l →
      (s.ofRecord l = true ↔ ∃ home o p, s.slots[l - s.poolBase]? = some (.active home o p))) ∧
    (s.patrol.index < 7 → s.advancePatrol = { s with patrol := { s.patrol with index := s.patrol.index + 1 } }) ∧
    (s.patrol.index = 7 → s.advancePatrol = s.nextLine) ∧
    (∀ l, s.patrol.line < s.memoryLines → l < s.memoryLines → s.ofRecord l = true →
      (s.patrol.line < l → (∀ m, s.patrol.line < m → m < l → s.ofRecord m = false) →
        s.nextLine = { s with patrol := { s.patrol with line := l, index := 0 } }) ∧
      (l ≤ s.patrol.line →
        (∀ m, m < s.memoryLines → s.patrol.line < m ∨ m < l → s.ofRecord m = false) →
        s.nextLine = { s with
          patrol := { s.patrol with line := l, index := 0, pass := s.patrol.pass + 1 }
          health :=
            if s.settings.agePasses = 0 then s.health
            else s.health.map fun place => place.filter fun e =>
              !(e.state == .watch &&
                decide (s.settings.agePasses ≤ (s.patrol.pass + 1 - e.lastPass).toNat)) }))

/-- A patrol read completes: CLEAN and POISONED change nothing but the cursor; a corrected word raises a health event and
its repaired word is written in the same grant; DOUBLE and MULTI are reported, raise a health event and leave the word. The
correction write supersedes, and the cursor moves at the step's last access (R53, R67, R79, R81, R82). Which report of an
uncorrectable read comes first where the table appends one too is open (assumption 5). That a step which
completes in QUIET moves the cursor like any other is the model's choice (assumption 23). -/
def Obligations.PatrolStepEnds : Prop :=
  ∀ (s : State) (word : Nat), s.award = none → s.port.abandoned = false →
    (∀ changed, s.port.access = some (.patrolRead word) →
      let found := s.readCells word changed
      let d := decode found.1
      (d.cls = .clean ∨ d.cls = .poisoned →
        exec (.patrolReadComplete changed) s = .next found.2.advancePatrol.ended) ∧
      (∀ cls, d.cls.error = some cls → cls.corrected = true →
        exec (.patrolReadComplete changed) s = .next (State.correctedRead
          { found.2 with port := { s.port with access := some (.patrolWrite word (encode d.data)), gap := false } }
          word cls .patrol)) ∧
      (∀ cls, d.cls.error = some cls → cls.corrected = false →
        exec (.patrolReadComplete changed) s = .next
          (found.2.uncorrectableRead (.uncorrectable word (cls == .multi) .patrol) word cls
            .patrol).advancePatrol.ended)) ∧
    (∀ stored, s.port.access = some (.patrolWrite word stored) →
      exec .patrolWriteComplete s = .next
        (State.advancePatrol { s with
          cells := setCell s.cells word stored
          writeBacks := s.writeBacks.filter fun w => w.word != word }).ended)

/-- The take of the head request. With a FREE slot, the lowest-numbered becomes the target, the context is filled from the
map as it stands, the source's health entry enters MOVING and any entry of the target's line is removed; M is present from
then on. With none, the request ends: the source's entry becomes UNREPAIRABLE and MIGRATION_FAILED is appended (R104, R105,
R120, R137, R138). A take that meets no outstanding decision makes M present to a FREE port (R48). One that follows a release
before its grant has reached the engine before the decision, which is made afresh with M taking part (R53); that the place of
the take in the queue says which came first is the model's choice (assumption 10). -/
def Obligations.TakeOutcomes : Prop :=
  ∀ (s : State) (r : MigrationRequest) (rest : List MigrationRequest),
    s.award = none ∨ s.decisionOpen = true → s.copy = none → s.mode = .normal → s.migrations = r :: rest →
    let source := s.translate r.home
    let decided (t : State) : State := if s.award = none then t.decidedIfFree else t.released
    (∀ target, s.slots[target]? = some .free → (∀ j < target, s.slots[j]? ≠ some Slot.free) →
      exec .take s = .next (decided { s with
        migrations := rest
        slots := s.slots.set target (.migrating r.home (.request r.reason) (s.activeSlot r.home))
        copy := some
          { home := r.home, sourceLine := source, sourceSlot := s.activeSlot r.home, target := target, cursor := 0,
            reason := r.reason, carried := 0, poisoned := 0, abortPending := false }
        health := s.health.map fun place =>
          (place.map fun e => if e.line = source then { e with state := .moving } else e).filter fun e =>
            e.line != s.poolBase + target })) ∧
    ((∀ j : Nat, s.slots[j]? ≠ some Slot.free) →
      exec .take s = .next (decided (State.append
        { s with
          migrations := rest
          health := s.health.map fun place =>
            place.map fun e => if e.line = source then { e with state := .unrepairable } else e }
        (.migrationFailed r.home .poolEmpty))))

/-- A copy read completes: a CLEAN word goes to the target as it is, a corrected word repaired, a POISONED word as it is, and
a DOUBLE or MULTI word as a poison marker over its raw data, with an UNCORRECTABLE report; the write begins in the same grant,
and no health event is raised (R45, R139, R140, R141). -/
def Obligations.CopyStepReads : Prop :=
  ∀ (s : State) (c : Copy) (word : Nat) (changed : StoredWord),
    s.award = none → s.port.abandoned = false → s.port.access = some (.copyRead word) → s.copy = some c →
    let found := s.readCells word changed
    let d := decode found.1
    let begun (stored : StoredWord) : State :=
      { found.2 with
        port := { s.port with
          access := some (.copyWrite ((s.poolBase + c.target) * 8 + c.cursor) stored d.cls), gap := false } }
    exec (.copyReadComplete changed) s = .next
      (match d.cls with
        | .clean => begun found.1
        | .singleData => begun (encode d.data)
        | .singleCheck => begun (encode (storedData found.1))
        | .poisoned => begun found.1
        | .double => (begun (poisonMarker (storedData found.1))).append (.uncorrectable word false .migration)
        | .multi => (begun (poisonMarker (storedData found.1))).append (.uncorrectable word true .migration))

/-- A copy write completes with no abort pending: the counts follow the class that the read decoded and the cursor rises by
1; the step that brings it to 8 commits: the target becomes ACTIVE with the pass number as installed pass, a replaced slot
RETIRED, the Write-Back Queue drops every entry in the source line, the health entry of the source line is removed,
MIGRATION_DONE is appended and the engine is IDLE (R53, R106, R121, R140, R141, R142, R146). -/
def Obligations.CopyStepEnds : Prop :=
  ∀ (s : State) (c : Copy) (word : Nat) (stored : StoredWord) (source : DecodeClass),
    s.award = none → s.port.abandoned = false → s.port.access = some (.copyWrite word stored source) →
    s.copy = some c → c.abortPending = false →
    let carried := c.carried + if source ∈ [.singleData, .singleCheck] then 1 else 0
    let poisoned := c.poisoned + if source ∈ [.double, .multi, .poisoned] then 1 else 0
    (c.cursor < 7 →
      exec .copyWriteComplete s = .next (State.ended { s with
        cells := setCell s.cells word stored
        copy := some { c with cursor := c.cursor + 1, carried := carried, poisoned := poisoned } })) ∧
    (c.cursor = 7 → s.slots[c.target]? = some (.migrating c.home (.request c.reason) c.sourceSlot) →
      let committed (slots : List Slot) : State :=
        (State.append
          { s with
            cells := setCell s.cells word stored
            slots := slots
            writeBacks := s.writeBacks.filter fun w => w.word / 8 != c.sourceLine
            health := s.health.map fun place => place.filter fun e => e.line != c.sourceLine
            copy := none }
          (.migrationDone c.home c.target c.sourceSlot carried poisoned)).ended
      let made := s.slots.set c.target (.active c.home (.request c.reason) s.patrol.pass)
      (c.sourceSlot = none → exec .copyWriteComplete s = .next (committed made)) ∧
      (∀ r o p, c.sourceSlot = some r → s.slots[r]? = some (.active c.home o p) →
        exec .copyWriteComplete s = .next (committed (made.set r (.retired c.home o p)))))

/-- A sweep write completes: the word is held and its queue entry superseded, and the cursor moves; the step that brings it
to MEMORY_LINES completes the sweep: NORMAL, with debt and timer 0, and SWEEP_DONE (R53, R67, R85, R162, R163). -/
def Obligations.SweepStepEnds : Prop :=
  ∀ (s : State) (word : Nat) (stored : StoredWord),
    s.award = none → s.port.abandoned = false → s.port.access = some (.sweepWrite word stored) →
    let written : State :=
      { s with
        cells := setCell s.cells word stored
        writeBacks := s.writeBacks.filter fun w => w.word != word }
    (s.sweepIndex < 7 →
      exec .sweepWriteComplete s = .next (State.ended { written with sweepIndex := s.sweepIndex + 1 })) ∧
    (s.sweepIndex = 7 → s.sweepLine + 1 < s.memoryLines →
      exec .sweepWriteComplete s = .next
        (State.ended { written with sweepIndex := 0, sweepLine := s.sweepLine + 1 })) ∧
    (s.sweepIndex = 7 → s.sweepLine + 1 = s.memoryLines →
      exec .sweepWriteComplete s = .next (State.append
        { written with
          sweepIndex := 0
          sweepLine := s.memoryLines
          mode := .normal
          patrol := { s.patrol with debt := 0, timer := 0 } }
        (.sweepDone s.memoryLines)).ended)

/-- A pending abort is made at the end of the grant that holds the port, after what the grant's last access does of its own:
the target slot is FREE again, the source's health entry is back in WATCH with deferred no if it was MOVING, MIGRATION_FAILED
with CANCELLED is appended and the engine is IDLE, and in QUIESCING with the Write-Back Queue empty the mode becomes QUIET
(R107, R122, R149, R151, R167). At a copy step the write is held and the cursor and the counts stay. At a host grant it comes
with every last access: a write alone, the second write of a doubled one, a READ of each class, a refused merge, an inline
write-back. At the completion of an access that a warm reset abandoned it comes too, for a copy taken since. That a host
grant's own reports come before the abort's is read from R149 (assumption 12), and QUIET_REACHED after it (assumption 11). -/
def Obligations.PendingAbortIsMade : Prop :=
  ∀ (s : State) (c : Copy), s.award = none → s.copy = some c → c.abortPending = true →
    let aborted (t : State) : State :=
      let u : State := State.append
        { t with
          slots := s.slots.set c.target .free
          health := t.health.map fun place => place.map fun e =>
            if e.line = c.sourceLine ∧ e.state = .moving then { e with state := .watch, deferred := false } else e
          copy := none }
        (.migrationFailed c.home .cancelled)
      if s.mode = .quiescing ∧ t.writeBacks = [] then
        (State.append { u with mode := .quiet } .quietReached).released
      else u.released
    (s.port.abandoned = false →
      (∀ word stored source, s.port.access = some (.copyWrite word stored source) →
        exec .copyWriteComplete s = .next (aborted { s with cells := setCell s.cells word stored })) ∧
      (∀ r, s.host.record = some r →
        (∀ word stored, s.port.access = some (.hostWrite word stored) →
          ¬ (word / 8 = c.sourceLine ∧ word % 8 < c.cursor) →
          exec .hostWriteComplete s = .next (aborted { s with
            cells := setCell s.cells word stored
            writeBacks := s.writeBacks.filter fun w => w.word != word
            host := s.answered r .okay none })) ∧
        (∀ word stored, s.port.access = some (.targetWrite word stored) →
          exec .targetWriteComplete s = .next (aborted { s with
            cells := setCell s.cells word stored
            host := s.answered r .okay none })) ∧
        (∀ word stored, s.port.access = some (.inlineWriteBack word stored) →
          exec .inlineWriteBackComplete s = .next (aborted { s with
            cells := setCell s.cells word stored
            writeBacks := s.writeBacks.filter fun w => w.word != word
            host := s.answered r .okay (some (storedData stored)) })) ∧
        (∀ word changed, s.port.access = some (.hostRead word) →
          let found := s.readCells word changed
          let d := decode found.1
          let answered (outcome : HostOutcome) (data : DataWord) : State :=
            { found.2 with host := s.answered r outcome (some data) }
          (d.cls = .clean →
            exec (.hostReadComplete changed) s = .next (aborted (answered .okay (storedData found.1)))) ∧
          (d.cls = .poisoned →
            exec (.hostReadComplete changed) s = .next (aborted
              ((answered (.refused .poisoned) (storedData found.1)).append (.hostRefused r.address .read .poisoned)))) ∧
          (∀ cls, d.cls.error = some cls → cls.corrected = true → s.mode ≠ .quiet →
            (r.grantedInQuiet = true → s.mode ≠ .sweeping) →
            exec (.hostReadComplete changed) s = .next (aborted (State.correctedRead
              { answered .okay d.data with
                writeBacks :=
                  if word ∈ s.writeBacks.map WriteBack.word then s.writeBacks
                  else s.writeBacks ++ [{ word := word, data := d.data }] }
              word cls .host))) ∧
          (∀ cls, d.cls.error = some cls → cls.corrected = false →
            exec (.hostReadComplete changed) s = .next (aborted
              ((answered (.uncorrectable cls) (storedData found.1)).uncorrectableRead
                (.uncorrectable word (cls == .multi) .host) word cls .host)))) ∧
        (∀ word changed data, s.port.access = some (.mergeRead word) → r.kind = .partialWrite data →
          let found := s.readCells word changed
          let refused : State := { found.2 with host := s.answered r (.refused .mergeRefused) none }
          let own : Report := .hostRefused r.address .write .mergeRefused
          ((decode found.1).cls = .poisoned →
            exec (.partialWriteReadComplete changed) s = .next (aborted (refused.append own))) ∧
          (∀ cls, (decode found.1).cls.error = some cls → cls.corrected = false →
            exec (.partialWriteReadComplete changed) s = .next
              (aborted (refused.uncorrectableRead own word cls .host)))))) ∧
    (∀ x, s.port.abandoned = true → s.port.access = some x →
      exec .abandonedAccessComplete s = .next (aborted { s with
        cells := match x with
          | .hostRead _ | .mergeRead _ | .patrolRead _ | .copyRead _ => s.cells
          | .inlineWriteBack a w | .hostWrite a w | .targetWrite a w | .drainWrite a w | .patrolWrite a w
          | .copyWrite a w _ | .sweepWrite a w => setCell s.cells a w }))

/-- In QUIESCING the mode becomes QUIET, with QUIET_REACHED, at the first event at which the engine is IDLE and the
Write-Back Queue is empty, before the port is released: a drain that removes the last entry, a host write or a patrol
correction write that supersedes it, and a commit; where one of the two conditions is still open the mode stays, and the
grant ends as in NORMAL. It is so at the end of every grant, whatever its last access (R66, R82, R86, R146, R167, R168). That
MIGRATION_DONE comes before QUIET_REACHED is the model's (assumption 11). The abort at a release is in
`Obligations.PendingAbortIsMade`, CANCEL at its execution in `Obligations.RequestsAndCancels`, QUIESCE itself in
`Obligations.ModeCommandsAnswer`, and HRESET in `Obligations.WarmResetClears`. -/
def Obligations.QuietIsReached : Prop :=
  ∀ s : State, s.award = none → s.mode = .quiescing →
    let ends (t : State) : State :=
      if t.copy = none ∧ t.writeBacks = [] then (State.append { t with mode := .quiet } .quietReached).released
      else t.released
    let superseded (word : Nat) := s.writeBacks.filter fun w => w.word != word
    ((∀ c, s.copy = some c → c.abortPending = false) → s.endGrant = ends s) ∧
    ((∀ c, s.copy = some c → c.abortPending = false) → s.port.abandoned = false →
      (∀ w rest word stored, s.port.access = some (.drainWrite word stored) → s.writeBacks = w :: rest →
        exec .drainWriteComplete s = .next
          (ends { s with cells := setCell s.cells word stored, writeBacks := rest })) ∧
      (∀ r word stored, s.host.record = some r → s.port.access = some (.hostWrite word stored) →
        (∀ c, s.copy = some c → ¬ (word / 8 = c.sourceLine ∧ word % 8 < c.cursor)) →
        exec .hostWriteComplete s = .next (ends { s with
          cells := setCell s.cells word stored
          writeBacks := superseded word
          host := s.answered r .okay none })) ∧
      (∀ word stored, s.port.access = some (.patrolWrite word stored) →
        exec .patrolWriteComplete s = .next (ends (State.advancePatrol { s with
          cells := setCell s.cells word stored
          writeBacks := superseded word }))) ∧
      (∀ c word stored source slots, s.port.access = some (.copyWrite word stored source) → s.copy = some c →
        c.cursor = 7 → s.slots[c.target]? = some (.migrating c.home (.request c.reason) c.sourceSlot) →
        let made := s.slots.set c.target (.active c.home (.request c.reason) s.patrol.pass)
        (c.sourceSlot = none ∧ slots = made) ∨
          (∃ r o p, c.sourceSlot = some r ∧ s.slots[r]? = some (.active c.home o p) ∧
            slots = made.set r (.retired c.home o p)) →
        exec .copyWriteComplete s = .next (ends (State.append
          { s with
            cells := setCell s.cells word stored
            slots := slots
            writeBacks := s.writeBacks.filter fun w => w.word / 8 != c.sourceLine
            health := s.health.map fun place => place.filter fun e => e.line != c.sourceLine
            copy := none }
          (.migrationDone c.home c.target c.sourceSlot
            (c.carried + if source ∈ [.singleData, .singleCheck] then 1 else 0)
            (c.poisoned + if source ∈ [.double, .multi, .poisoned] then 1 else 0))))))

/-! ### Health events -/

/-- A health event is recorded: in the line's entry, whatever its state (R96); in a new WATCH entry at the lowest empty place,
with NEW_WEAK_LINE for a corrected event (R97); with no place empty, in the place of the WATCH entry of lowest count, then
greatest age, then lowest place (R98); and with no such entry not at all, with HEALTH_FULL (R99). The entry for a line is the
one that holds it, wherever it stands (R94). -/
def Obligations.HealthEventsAreRecorded : Prop :=
  ∀ (s : State) (ev : HealthEvent),
    let pass := s.patrol.pass
    let fresh : HealthEntry :=
      { line := ev.line, state := .watch, count := if ev.cls.corrected then 1 else 0,
        uncorrectable := !ev.cls.corrected, deferred := false, lastClass := ev.cls, lastIndex := ev.index,
        lastSource := ev.source, firstPass := pass, lastPass := pass }
    let weak : List Report :=
      if ev.cls.corrected then [.newWeakLine ev.line ev.index (ev.cls == .singleCheck) ev.source] else []
    let created (i : Nat) : State := { s with health := s.health.set i (some fresh) }
    let unlisted := ∀ (i : Nat) (e : HealthEntry), s.health[i]? = some (some e) → e.line ≠ ev.line
    let full := ∀ i : Nat, s.health[i]? ≠ some none
    (unlisted → s.healthEntry ev.line = none) ∧
    (∀ (i : Nat) (e : HealthEntry), s.health[i]? = some (some e) → e.line = ev.line → s.healthLines.Nodup →
      s.healthEntry ev.line = some e) ∧
    (∀ (i : Nat) (e : HealthEntry), s.health[i]? = some (some e) → e.line = ev.line → s.healthLines.Nodup →
      s.recordHealth ev =
        ({ s with health := s.health.set i (some { e with
            count := if ev.cls.corrected then (if e.count < 255 then e.count + 1 else 255) else e.count
            uncorrectable := e.uncorrectable || !ev.cls.corrected
            lastClass := ev.cls
            lastIndex := ev.index
            lastSource := ev.source
            lastPass := pass }) }, [])) ∧
    (∀ i : Nat, unlisted → s.health[i]? = some none → (∀ j < i, s.health[j]? ≠ some none) →
      s.recordHealth ev = (created i, weak)) ∧
    (∀ (i : Nat) (e : HealthEntry), unlisted → full → s.health[i]? = some (some e) → e.state = .watch →
      (∀ (j : Nat) (e' : HealthEntry), s.health[j]? = some (some e') → e'.state = .watch → j ≠ i →
        e.count < e'.count ∨
          (e.count = e'.count ∧
            ((pass - e'.lastPass).toNat < (pass - e.lastPass).toNat ∨
              ((pass - e'.lastPass).toNat = (pass - e.lastPass).toNat ∧ i < j)))) →
      s.recordHealth ev = (created i, weak)) ∧
    (unlisted → full → (∀ (i : Nat) (e : HealthEntry), s.health[i]? = some (some e) → e.state ≠ .watch) →
      s.recordHealth ev = (s, [.healthFull ev.line]))

/-- After it is recorded, an event may ask for a migration: a WATCH entry at MIGRATE_THRESHOLD, or an uncorrectable event with
MIGRATE_ON_UNCORRECTABLE on and its entry in WATCH or absent. An accepted request goes to the tail of the migration queue and
the entry to QUEUED; a duplicate does nothing; at a full queue the deferral is reported, once for an entry (R100, R101, R102,
R133). The event of a read names the word's line and index; a corrected read leaves the event's state with the table's reports
appended in their order, and an uncorrectable one the same with the reading block's own report before or after them all: which
is open (R95, R103; assumption 5). -/
def Obligations.MigrationIsRequested : Prop :=
  ∀ (s : State) (ev : HealthEvent),
    let recorded := s.recordHealth ev
    let t := recorded.1
    let entry := t.healthEntry ev.line
    let worse := ev.cls.corrected = false ∧ s.settings.migrateOnUncorrectable = true
    let asks :=
      (∃ e, entry = some e ∧ e.state = .watch ∧ (s.settings.migrateThreshold ≤ e.count ∨ worse)) ∨
        (entry = none ∧ worse)
    let held (home : Nat) :=
      home ∈ s.migrations.map MigrationRequest.home ∨ home ∈ (s.copy.map Copy.home).toList
    let marked (u : State) (f : HealthEntry → HealthEntry) : State :=
      { u with health := t.health.map fun place => place.map fun e => if e.line = ev.line then f e else e }
    (¬ asks → s.healthEvent ev = recorded) ∧
    (asks → ∀ home reason,
      ((ev.line < s.poolBase ∧ home = ev.line ∧ (worse → reason = .uncorrectable) ∧
          (¬ worse → reason = .threshold)) ∨
        (s.poolBase ≤ ev.line ∧ reason = .spareFault ∧
          (∃ o p, s.slots[ev.line - s.poolBase]? = some (.active home o p)))) →
      (held home → s.healthEvent ev = recorded) ∧
      (¬ held home → s.migrations.length < 4 →
        s.healthEvent ev =
          (marked { t with migrations := s.migrations ++ [{ home := home, reason := reason }] }
            (fun e => { e with state := .queued, deferred := false }), recorded.2)) ∧
      (¬ held home → 4 ≤ s.migrations.length →
        s.healthEvent ev =
          match entry with
          | none => (t, recorded.2 ++ [.migrationDeferred home])
          | some e =>
            if e.deferred then recorded
            else (marked t (fun e => { e with deferred := true }), recorded.2 ++ [.migrationDeferred home]))) ∧
    (∀ (word : Nat) (cls : ErrorClass) (source : EventSource) (own : Report),
      ev = { line := word / 8, index := word % 8, cls := cls, source := source } →
      let u := (s.healthEvent ev).1
      let table := (s.healthEvent ev).2
      let drawn : State := { u with freeIndex := u.freeIndex + 1 }
      s.correctedRead word cls source = table.foldl State.append u ∧
      (table = [] → s.uncorrectableRead own word cls source = u.append own) ∧
      (table ≠ [] →
        s.uncorrectableRead own word cls source = (table.foldl State.append drawn).append own ∨
          s.uncorrectableRead own word cls source = table.foldl State.append (drawn.append own)))

/-! ### Time and resets -/

/-- A timebase tick: outside NORMAL, and with PATROL_INTERVAL 0, the timer is held; otherwise it rises by 1, and the tick
that brings it to PATROL_INTERVAL returns it to 0 and raises debt by 1, unless debt stands at DEBT_LIMIT; P that becomes
present to a FREE port is decided on at once (R48, R75, R76, R77). That the row INTERVAL_EXPIRY is this same tick, named by its
effect, is read from R75 (assumption 14). -/
def Obligations.TicksCount : Prop :=
  ∀ s : State, s.award = none →
    (s.mode ≠ .normal ∨ s.settings.patrolInterval = 0 → exec .timebaseTick s = .next s) ∧
    (s.mode = .normal → 1 ≤ s.settings.patrolInterval → s.patrol.timer + 1 ≠ s.settings.patrolInterval →
      exec .timebaseTick s = .next { s with patrol := { s.patrol with timer := s.patrol.timer + 1 } }) ∧
    (s.mode = .normal → s.patrol.timer + 1 = s.settings.patrolInterval →
      ∀ c ∈ [Instr.timebaseTick, .intervalExpiry], exec c s = .next
        (if s.patrol.debt < s.settings.debtLimit then
          State.decidedIfFree { s with patrol := { s.patrol with timer := 0, debt := s.patrol.debt + 1 } }
        else { s with patrol := { s.patrol with timer := 0 } }))

/-- A warm reset: the cycle is abandoned and its lines released, the starvation counter, the Write-Back Queue, the migration
queue, debt and timer are cleared, the copy in flight is aborted, QUEUED and MOVING entries return to WATCH, and the mode
changes as R171 gives; WARM_RESET is appended with what stood before, and after QUIESCING also QUIET_REACHED. Everything else
is kept (R39, R59, R72, R91, R112, R155, R171, R172, R179, R185). A held port stays held for the abandoned grant. Where a
host grant's read or source write has completed and its next write (of a merge, a QUIET repair, a copy target) has not begun,
that write does not begin, and the word keeps what it held (R40, R145); whether it has begun since the last event is open,
and that the port is FREE at once where it had not is the model's choice (assumption 21). -/
def Obligations.WarmResetClears : Prop :=
  ∀ s : State, s.award = none → s.hreset = false → s.poreset = false →
    let cleared (begun : Bool) (drawn : Nat) : State :=
      { s with
        hreset := true
        strobeHeld := false
        host := { state := .abandoned, record := none, hrdy := false, herr := false, hd := none }
        port :=
          if s.port.holder = .free then s.port
          else if begun then { s.port with gap := false, abandoned := true }
          else { holder := .free, access := none, gap := false, abandoned := false }
        starvation := 0
        writeBacks := []
        migrations := []
        copy := none
        slots := match s.copy with
          | some c => s.slots.set c.target .free
          | none => s.slots
        patrol := { s.patrol with debt := 0, timer := 0 }
        health := s.health.map fun place => place.map fun e =>
          if e.state = .queued ∨ e.state = .moving then { e with state := .watch, deferred := false } else e
        mode := match s.mode with
          | .uninit | .sweeping => .uninit
          | .normal => .normal
          | .quiescing | .quiet => .quiet
        freeIndex := s.freeIndex + drawn }
    let after (t : State) : State :=
      let reported := t.append (.warmReset s.mode s.writeBacks.length (s.copy.map Copy.home))
      if s.mode = .quiescing then reported.append .quietReached else reported
    (s.port.gap = false → exec .hresetAssert s = .next (after (cleared true 0))) ∧
    (s.port.gap = true → ∃ begun : Bool, exec .hresetAssert s = .next (after (cleared begun 1)))

/-- A cold reset, at PORESET and at the rise of MCS that ends a RESET_COLD, whether its command byte is still to come or its
answer has been formed: every block takes its cold reset values, which are written out, no report is appended, and the word
of an access in progress holds no defined contents; every other word is kept (R42, R58, R73, R92, R113, R131, R156, R173,
R186, R201, R204). The levels of the other input lines are kept (assumption 1). Whether a host grant's later access had begun
is open, and where it had not its word is kept too (assumption 21). -/
def Obligations.ColdResetClears : Prop :=
  ∀ s : State, s.award = none → s.ArraySound →
    ∃ (begun : Bool) (cells : List (Nat × StoredWord)),
      (s.port.gap = false → begun = true) ∧
      (∀ a, getCell cells a =
        if begun = true ∧ ∃ x, s.port.access = some x ∧ x.word = a then none else getCell s.cells a) ∧
      let cold (poreset mcs : Bool) : State :=
        { hstb := s.hstb
          strobeHeld := false
          hreset := s.hreset
          poreset := poreset
          mcs := mcs
          host := { state := .idle, record := none, hrdy := false, herr := false, hd := none }
          port := { holder := .free, access := none, gap := false, abandoned := false }
          award := none
          decisionOpen := false
          starvation := 0
          writeBacks := []
          patrol := { line := 0, index := 0, pass := 0#16, debt := 0, timer := 0 }
          health := List.replicate 32 none
          slots := List.replicate 32 .free ++ List.replicate 32 .absent
          migrations := []
          copy := none
          mode := .uninit
          sweepLine := 0
          sweepIndex := 0
          reports := []
          sequence := 0#16
          alert := false
          settings :=
            { memoryLinesLog2 := 16, spareCount := 32, patrolInterval := 64, debtLimit := 8, migrateThreshold := 4,
              migrateOnUncorrectable := true, agePasses := 2, alertMask := 0x3FF#10 }
          frame :=
            { state := .idle, bitCount := 0, bits := 0#8, command := 0#8, args := [], response := [], sent := 0 }
          cells := cells
          freeIndex := if s.port.gap then s.freeIndex + 1 else s.freeIndex
          pending := s.pending }
      exec .poresetAssert s = .next (cold true s.mcs) ∧
      (s.mcs = true → s.frame.awaits [0x3C#8] = true → exec .resetCold s = .next (cold s.poreset false)) ∧
      (s.mcs = true → s.frame.command = 0x3C#8 → s.frame.state = .response ∨ s.frame.state = .trailing →
        ∀ c ∈ [Instr.frameEnd, .resetCold], exec c s = .next (cold s.poreset false))

/-! ### The management port's frame -/

/-- The fall of MCS begins a frame, but not while PORESET is asserted; its rise ends or discards the frame, whatever it
held, and changes nothing else, except where the frame holds a RESET_COLD whose answer has been formed, which
`Obligations.ColdResetClears` has (R188, R189, R192, R201, R203). That MCS asserted again begins nothing and that a rise of MCS
while it is deasserted changes nothing are the model's choices (assumptions 8 and 7). -/
def Obligations.FramesBeginAndEnd : Prop :=
  ∀ s : State, s.award = none →
    (s.mcs = false → s.poreset = false →
      exec .frameBegin s = .next { s with
        mcs := true
        frame :=
          { state := .command, bitCount := 0, bits := 0#8, command := 0#8, args := [], response := [], sent := 0 } }) ∧
    (s.mcs = true ∨ s.poreset = true → exec .frameBegin s = .next { s with mcs := true }) ∧
    (s.mcs = true → ¬ (s.frame.command = 0x3C#8 ∧ (s.frame.state = .response ∨ s.frame.state = .trailing)) →
      exec .frameEnd s = .next { s with
        mcs := false
        frame :=
          { state := .idle, bitCount := 0, bits := 0#8, command := 0#8, args := [], response := [], sent := 0 } }) ∧
    (s.mcs = false → exec .frameEnd s = .next s)

/-- The bit that stands on MSO at each rising edge: none in IDLE, the padding byte's while bytes are received and in TRAILING,
and in RESPONSE the next bit of the byte being sent, most significant first (R188, R189, R206; assumption 17). And the rising
edges of MSCK that end in no execution: nothing while MCS is deasserted or the port is IDLE; a bit of a byte
counted, and shifted in while a command is received; the eighth edge of a command byte that takes arguments, of an argument
that is not the last, of a response byte and of a trailing byte (R188, R189). The argument bytes that follow each command byte
are counted, none after a byte that names no command (R190). -/
def Obligations.ClockEdgesCount : Prop :=
  ∀ (s : State) (msi : Bool), s.award = none →
    let f := s.frame
    (∀ code : Byte, argumentsAfter code =
      if code ∈ [0x04#8, 0x10#8, 0x12#8, 0x13#8] then 3
      else if code ∈ [0x03#8, 0x05#8, 0x06#8, 0x07#8, 0x11#8] then 1 else 0) ∧
    (f.state = .idle → s.mso = none) ∧
    (f.state = .command ∨ f.state = .arguments ∨ f.state = .trailing → s.mso = some false) ∧
    (∀ byte, f.state = .response → f.response[f.sent]? = some byte → s.mso = some (byte.getLsbD (7 - f.bitCount))) ∧
    (s.mcs = false ∨ f.state = .idle → exec (.msckRisingEdge msi) s = .next s) ∧
    (s.mcs = true → f.bitCount < 7 →
      (f.state = .command ∨ f.state = .arguments →
        ∃ bits : Byte, (∀ i < 8, bits.getLsbD i = if i = 0 then msi else f.bits.getLsbD (i - 1)) ∧
          exec (.msckRisingEdge msi) s = .next { s with frame := { f with bitCount := f.bitCount + 1, bits := bits } }) ∧
      (f.state = .response ∨ f.state = .trailing →
        exec (.msckRisingEdge msi) s = .next { s with frame := { f with bitCount := f.bitCount + 1 } })) ∧
    (s.mcs = true → f.bitCount = 7 →
      (f.state = .response →
        exec (.msckRisingEdge msi) s = .next { s with
          frame := { f with
            bitCount := 0
            sent := f.sent + 1
            state := if f.sent + 1 < f.response.length then .response else .trailing } }) ∧
      (f.state = .trailing → exec (.msckRisingEdge msi) s = .next { s with frame := { f with bitCount := 0 } }) ∧
      (∀ byte : Byte, (∀ i < 8, byte.getLsbD i = if i = 0 then msi else f.bits.getLsbD (i - 1)) →
        (f.state = .command → 1 ≤ argumentsAfter byte →
          exec (.msckRisingEdge msi) s = .next { s with
            frame := { f with state := .arguments, bitCount := 0, bits := 0#8, command := byte, args := [] } }) ∧
        (f.state = .arguments → f.args.length + 1 < argumentsAfter f.command →
          exec (.msckRisingEdge msi) s = .next { s with
            frame := { f with bitCount := 0, bits := 0#8, args := f.args ++ [byte] } })))

/-- The bits of a command's bytes, most significant first, carried by one rising edge of MSCK each, make the command: from
the beginning of a frame they leave what the command's own row leaves. A RESET_COLD so received has its answer formed, and
nothing else has changed; a byte that names no command is UNKNOWN_COMMAND (R188, R189, R190, R191, R201, R206). That a
command's row stands for the bytes still to come is the model's choice (assumption 7): a frame awaits a command's bytes while
the whole bytes it has received are the first of them and its current byte's bits are the first of the next. -/
def Obligations.BitsMakeCommands : Prop :=
  (∀ (f : Frame) (bytes : List Byte),
    f.awaits bytes = true ↔
      (f.state = .command ∧
        ∃ (next : Byte) (rest : List Byte), bytes = next :: rest ∧ f.bits = next >>> (8 - f.bitCount)) ∨
      (f.state = .arguments ∧
        ∃ (next : Byte) (rest : List Byte),
          bytes = f.command :: (f.args ++ next :: rest) ∧ f.bits = next >>> (8 - f.bitCount))) ∧
  ∀ s : State, s.award = none → s.mcs = true → s.frame = Frame.begin →
    (∀ (c : Command) (args : List Byte), args.length = argumentCount c → c ≠ .resetCold →
      execAll (edgesOf (commandCode c :: args)) s = exec (rowOf c args) s) ∧
    (∀ code : Byte, commandNamed code = none →
      execAll (edgesOf [code]) s = exec (.unknownCommand code) s) ∧
    execAll (edgesOf [0x3C#8]) s = .next { s with frame := Frame.executed 0x3C#8 [] [0x01#8] }

/-! ### The management port's commands

Each says, for a frame that awaits the rest of the command's bytes, what the command answers and what it does: `answer t c
args response` is the state `t` with the response formed and none of it sent (R189, R191). -/

/-- IDENTIFY, READ_STATUS, READ_SETTING, READ_SLOT, READ_HEALTH, READ_MIGRATION, PEEK_REPORT and a byte that names no
command: each forms its answer and changes nothing else. The records that they return are laid out byte by byte: the status
record of 19 bytes, a slot record of 8, a health entry record of 12, and a migration record of 14 bytes of context and 4 of
request, with FFh in every byte of an absent field and 00h in every byte of an empty record. After each, as after every
command below, the frame is in RESPONSE, with the command, its argument bytes and the response held and none of it sent
(R111, R128, R157, R181, R190, R191, R194, R195, R196, R198, R199, R206, R207, R208). -/
def Obligations.ReadCommandsAnswer : Prop :=
  ∀ s : State, s.award = none →
    let answer (code : Byte) (args response : List Byte) : State :=
      { s with frame := Frame.executed code args response }
    let st := s.settings
    (s.frame.awaits [0x01#8] = true →
      exec .identify s = .next (answer 0x01#8 [] [0x01#8, 0x3E#8, 0x39#8, 0x08#8, 0x01#8])) ∧
    (s.frame.awaits [0x02#8] = true →
      exec .readStatus s = .next (answer 0x02#8 [] (0x01#8 :: s.statusRecord))) ∧
    (∀ id : Byte, s.frame.awaits [0x03#8, id] = true →
      (∀ v, (id, v) ∈ [(0x01#8, st.memoryLinesLog2), (0x02#8, st.spareCount), (0x03#8, st.patrolInterval),
          (0x04#8, st.debtLimit), (0x05#8, st.migrateThreshold),
          (0x06#8, if st.migrateOnUncorrectable then 1 else 0), (0x07#8, st.agePasses),
          (0x08#8, st.alertMask.toNat)] →
        exec (.readSetting id) s = .next (answer 0x03#8 [id] (0x01#8 :: bigEndian 2 v))) ∧
      (id = 0x00#8 ∨ 8 < id.toNat →
        exec (.readSetting id) s = .next (answer 0x03#8 [id] [0x03#8, 0x00#8, 0x00#8]))) ∧
    (∀ n : Byte, s.frame.awaits [0x05#8, n] = true → s.slots.length = 64 →
      (∀ slot, s.slots[n.toNat]? = some slot →
        exec (.readSlot n) s = .next (answer 0x05#8 [n] (0x01#8 :: slot.record))) ∧
      (64 ≤ n.toNat → exec (.readSlot n) s = .next (answer 0x05#8 [n] (0x03#8 :: List.replicate 8 0x00#8)))) ∧
    (∀ n : Byte, s.frame.awaits [0x06#8, n] = true → s.health.length = 32 →
      (∀ e, s.health[n.toNat]? = some (some e) →
        exec (.readHealth n) s = .next (answer 0x06#8 [n] (0x01#8 :: e.record))) ∧
      (s.health[n.toNat]? = some none →
        exec (.readHealth n) s = .next (answer 0x06#8 [n] (0x01#8 :: List.replicate 12 0x00#8))) ∧
      (32 ≤ n.toNat →
        exec (.readHealth n) s = .next (answer 0x06#8 [n] (0x03#8 :: List.replicate 12 0x00#8)))) ∧
    (∀ n : Byte, s.frame.awaits [0x07#8, n] = true →
      (n.toNat ≤ 3 →
        exec (.readMigration n) s = .next (answer 0x07#8 [n]
          (0x01#8 :: (contextRecord s.copy ++ requestRecord s.migrations[n.toNat]?)))) ∧
      (4 ≤ n.toNat →
        exec (.readMigration n) s = .next (answer 0x07#8 [n] (0x03#8 :: List.replicate 18 0x00#8)))) ∧
    (s.frame.awaits [0x08#8] = true →
      (∀ r rest, s.reports = r :: rest →
        exec .peekReport s = .next (answer 0x08#8 [] (0x01#8 :: r.bytes))) ∧
      (s.reports = [] →
        exec .peekReport s = .next (answer 0x08#8 [] (0x08#8 :: List.replicate 8 0x00#8)))) ∧
    (∀ code : Byte, commandNamed code = none → s.frame.awaits [code] = true →
      exec (.unknownCommand code) s = .next (answer code [] [0x02#8])) ∧
    (∀ code args response, Frame.executed code args response =
      { state := .response, bitCount := 0, bits := 0#8, command := code, args := args, response := response,
        sent := 0 }) ∧
    (∀ code : Byte, commandNamed code = none ↔
      code ∉ [0x01#8, 0x02#8, 0x03#8, 0x04#8, 0x05#8, 0x06#8, 0x07#8, 0x08#8, 0x09#8, 0x10#8, 0x11#8, 0x12#8, 0x13#8,
        0x14#8, 0x20#8, 0x21#8, 0x22#8, 0x23#8, 0x3C#8]) ∧
    (let byte (n : Nat) : Byte := BitVec.ofNat 8 n
     let two (n : Nat) : List Byte := [byte (n / 256), byte n]
     let three (n : Nat) : List Byte := [byte (n / 65536), byte (n / 256), byte n]
     let absent (n : Nat) : List Byte := List.replicate n 0xFF#8
     let reasonCode : Reason → Byte
       | .threshold => 2
       | .uncorrectable => 3
       | .spareFault => 4
       | .command => 5
     let originCode : Origin → Byte
       | .preset => 1
       | .request reason => reasonCode reason
     let modeCode : Mode → Byte
       | .uninit => 0
       | .sweeping => 1
       | .normal => 2
       | .quiescing => 3
       | .quiet => 4
     let stateCode : HealthState → Byte
       | .watch => 1
       | .queued => 2
       | .moving => 3
       | .unrepairable => 4
     let classCode : ErrorClass → Byte
       | .singleData => 1
       | .singleCheck => 2
       | .double => 3
       | .multi => 4
     (∀ n, bigEndian 2 n = two n ∧ bigEndian 3 n = three n) ∧
     s.statusRecord =
       modeCode s.mode :: three s.sweepLine ++ three s.patrol.line ++ [byte s.patrol.index] ++ two s.patrol.pass.toNat
         ++ [byte s.patrol.debt, byte s.writeBacks.length, byte s.migrations.length]
         ++ (match s.copy with
           | none => [0x00#8, 0xFF#8, 0xFF#8]
           | some c => [0x01#8, byte c.target, byte c.cursor])
         ++ [byte (s.slots.filter (· = .free)).length, byte s.reports.length, byte s.starvation] ∧
     Slot.absent.record = 0 :: absent 7 ∧
     Slot.free.record = 1 :: absent 7 ∧
     (∀ home o, (Slot.migrating home o none).record = 2 :: (three home ++ [originCode o] ++ absent 3)) ∧
     (∀ home o slot,
       (Slot.migrating home o (some slot)).record = 2 :: (three home ++ [originCode o, byte slot] ++ absent 2)) ∧
     (∀ home o (p : Pass),
       (Slot.active home o p).record = 3 :: (three home ++ [originCode o] ++ absent 1 ++ two p.toNat)) ∧
     (∀ home o (p : Pass),
       (Slot.retired home o p).record = 4 :: (three home ++ [originCode o] ++ absent 1 ++ two p.toNat)) ∧
     (∀ e : HealthEntry, e.record =
       three e.line
         ++ [stateCode e.state, byte e.count,
           (if e.uncorrectable then 1#8 else 0#8) ||| (if e.deferred then 2#8 else 0#8)
             ||| (if e.lastSource = .patrol then 4#8 else 0#8),
           classCode e.lastClass, byte e.lastIndex]
         ++ two e.firstPass.toNat ++ two e.lastPass.toNat) ∧
     contextRecord none = 0 :: absent 13 ∧
     (∀ c : Copy, contextRecord (some c) =
       1 :: (three c.home ++ three c.sourceLine
         ++ (match c.sourceSlot with
           | none => absent 1
           | some slot => [byte slot])
         ++ [byte c.target, byte c.cursor, reasonCode c.reason, byte c.carried, byte c.poisoned,
           if c.abortPending then 1 else 0])) ∧
     requestRecord none = List.replicate 4 0 ∧
     (∀ r : MigrationRequest, requestRecord (some r) = three r.home ++ [reasonCode r.reason]))

/-- The writes of the six settings that every mode takes, by the setting's own row or by WRITE_SETTING with its identifier,
each with its range and its effect at execution: an accepted write answers OK with the new value, and a refused one
BAD_ARGUMENT with the value still held. A WRITE_SETTING of an identifier that names no setting answers BAD_ARGUMENT (R87, R88,
R110, R183, R184, R196, R207). The identifiers 01h and 02h are in `Obligations.PoolSettingsAreWritten`. -/
def Obligations.SettingsAreWritten : Prop :=
  ∀ (s : State) (v : BitVec 16), s.award = none →
    let n := v.toNat
    let received (id : Byte) : Prop := s.frame.awaits (0x04#8 :: id :: bigEndian 2 n) = true
    let answer (id : Byte) (t : State) (status : Byte) (held : Nat) : State :=
      { t with frame := Frame.executed 0x04#8 (id :: bigEndian 2 n) (status :: bigEndian 2 held) }
    let st := s.settings
    (received 0x03#8 → ∀ c ∈ [Instr.writePatrolInterval v, .writeSetting 0x03#8 v],
      exec c s = .next (answer 0x03#8
        { s with settings := { st with patrolInterval := n }, patrol := { s.patrol with timer := 0 } } 0x01#8 n)) ∧
    (received 0x04#8 → ∀ c ∈ [Instr.writeDebtLimit v, .writeSetting 0x04#8 v],
      (1 ≤ n ∧ n ≤ 15 →
        exec c s = .next (answer 0x04#8
          { s with
            settings := { st with debtLimit := n }
            patrol := { s.patrol with debt := if n < s.patrol.debt then n else s.patrol.debt } } 0x01#8 n)) ∧
      (n = 0 ∨ 16 ≤ n → exec c s = .next (answer 0x04#8 s 0x03#8 st.debtLimit))) ∧
    (received 0x05#8 → ∀ c ∈ [Instr.writeMigrateThreshold v, .writeSetting 0x05#8 v],
      (1 ≤ n ∧ n ≤ 255 →
        exec c s = .next
          (answer 0x05#8 { s with settings := { st with migrateThreshold := n } } 0x01#8 n)) ∧
      (n = 0 ∨ 256 ≤ n →
        exec c s = .next (answer 0x05#8 s 0x03#8 st.migrateThreshold))) ∧
    (received 0x06#8 → ∀ c ∈ [Instr.writeMigrateOnUncorrectable v, .writeSetting 0x06#8 v],
      (n = 0 →
        exec c s = .next
          (answer 0x06#8 { s with settings := { st with migrateOnUncorrectable := false } } 0x01#8 0)) ∧
      (n = 1 →
        exec c s = .next
          (answer 0x06#8 { s with settings := { st with migrateOnUncorrectable := true } } 0x01#8 1)) ∧
      (2 ≤ n →
        exec c s = .next
          (answer 0x06#8 s 0x03#8 (if st.migrateOnUncorrectable then 1 else 0)))) ∧
    (received 0x07#8 → ∀ c ∈ [Instr.writeAgePasses v, .writeSetting 0x07#8 v],
      (n ≤ 255 →
        exec c s = .next
          (answer 0x07#8 { s with settings := { st with agePasses := n } } 0x01#8 n)) ∧
      (256 ≤ n → exec c s = .next (answer 0x07#8 s 0x03#8 st.agePasses))) ∧
    (received 0x08#8 → ∀ c ∈ [Instr.writeAlertMask v, .writeSetting 0x08#8 v],
      (n ≤ 1023 →
        exec c s = .next (answer 0x08#8
          { s with
            settings := { st with alertMask := v.setWidth 10 }
            alert := alertCondition (v.setWidth 10) s.reports } 0x01#8 n)) ∧
      (1024 ≤ n → exec c s = .next (answer 0x08#8 s 0x03#8 st.alertMask.toNat))) ∧
    (∀ id : Byte, id = 0x00#8 ∨ 8 < id.toNat → received id →
      exec (.writeSetting id v) s = .next
        { s with frame := Frame.executed 0x04#8 (id :: bigEndian 2 n) [0x03#8, 0x00#8, 0x00#8] })

/-- The writes of MEMORY_LINES_LOG2 and SPARE_COUNT, by their own rows or by WRITE_SETTING with their identifiers: WRONG_MODE
outside UNINIT, then BAD_ARGUMENT outside the range, then the tests of R126 or R125; an accepted write of the first removes
the health entries that the new array has no line for, returns the sweep cursor to 0 and a patrol cursor beyond the array to
0, and one of the second makes slots ABSENT or FREE and keeps the others' records (R89, R125, R126, R174, R196). -/
def Obligations.PoolSettingsAreWritten : Prop :=
  ∀ (s : State) (v : BitVec 16), s.award = none →
    let n := v.toNat
    let answer (id : Byte) (t : State) (status : Byte) (held : Nat) : State :=
      { t with frame := Frame.executed 0x04#8 (id :: bigEndian 2 n) (status :: bigEndian 2 held) }
    let st := s.settings
    let outOfView (bound : Nat) : Prop :=
      ∃ (i home : Nat) (o : Origin) (p : Pass), s.slots[i]? = some (.active home o p) ∧ bound ≤ home
    let inUse : Prop :=
      ∃ (i : Nat) (slot : Slot), n ≤ i ∧ s.slots[i]? = some slot ∧ slot ≠ .absent ∧ slot ≠ .free
    (s.frame.awaits (0x04#8 :: 0x01#8 :: bigEndian 2 n) = true →
      ∀ c ∈ [Instr.writeMemoryLinesLog2 v, .writeSetting 0x01#8 v],
      (s.mode ≠ .uninit →
        exec c s = .next (answer 0x01#8 s 0x04#8 st.memoryLinesLog2)) ∧
      (s.mode = .uninit →
        n < 12 ∨ 19 < n ∨ 2 ^ n ≤ st.spareCount ∨ outOfView (2 ^ n - st.spareCount) →
        exec c s = .next (answer 0x01#8 s 0x03#8 st.memoryLinesLog2)) ∧
      (s.mode = .uninit → 12 ≤ n → n ≤ 19 → st.spareCount < 2 ^ n → ¬ outOfView (2 ^ n - st.spareCount) →
        exec c s = .next (answer 0x01#8
          { s with
            settings := { st with memoryLinesLog2 := n }
            sweepLine := 0
            sweepIndex := 0
            patrol := if s.patrol.line < 2 ^ n then s.patrol else { s.patrol with line := 0, index := 0 }
            health := s.health.map fun place => place.filter fun e => decide (e.line < 2 ^ n) } 0x01#8 n))) ∧
    (s.frame.awaits (0x04#8 :: 0x02#8 :: bigEndian 2 n) = true →
      ∀ c ∈ [Instr.writeSpareCount v, .writeSetting 0x02#8 v],
      (s.mode ≠ .uninit → exec c s = .next (answer 0x02#8 s 0x04#8 st.spareCount)) ∧
      (s.mode = .uninit → 64 < n ∨ inUse ∨ outOfView (s.memoryLines - n) →
        exec c s = .next (answer 0x02#8 s 0x03#8 st.spareCount)) ∧
      (s.mode = .uninit → n ≤ 64 → ¬ inUse → ¬ outOfView (s.memoryLines - n) →
        ∃ slots : List Slot,
          slots.length = s.slots.length ∧
          (∀ (i : Nat) (slot : Slot), s.slots[i]? = some slot →
            slots[i]? = some (if n ≤ i then .absent else if slot = .absent then .free else slot)) ∧
          exec c s = .next (answer 0x02#8
            { s with settings := { st with spareCount := n }, slots := slots } 0x01#8 n)))

/-- MAP_PRESET and UNMAP_SLOT, in UNINIT alone, with the tests in the order of R124 and the answer of each: a preset takes
the lowest-numbered FREE slot, ACTIVE at once with origin PRESET and the pass number, and returns its number; an unmapping
returns a slot that is in use to FREE (R124, R191, R200). -/
def Obligations.PresetsAndUnmaps : Prop :=
  ∀ s : State, s.award = none →
    let answer (t : State) (code : Byte) (args response : List Byte) : State :=
      { t with frame := Frame.executed code args response }
    (∀ line : BitVec 24, s.frame.awaits (0x10#8 :: bigEndian 3 line.toNat) = true →
      let home := line.toNat
      let preset (t : State) (status data : Byte) : State :=
        answer t 0x10#8 (bigEndian 3 home) [status, data]
      let mapped := ∃ (i : Nat) (o : Origin) (p : Pass), s.slots[i]? = some (.active home o p)
      (s.mode ≠ .uninit → exec (.mapPreset line) s = .next (preset s 0x04#8 0x00#8)) ∧
      (s.mode = .uninit → s.poolBase ≤ home → exec (.mapPreset line) s = .next (preset s 0x03#8 0x00#8)) ∧
      (s.mode = .uninit → home < s.poolBase → mapped →
        exec (.mapPreset line) s = .next (preset s 0x06#8 0x00#8)) ∧
      (s.mode = .uninit → home < s.poolBase → ¬ mapped → (∀ i : Nat, s.slots[i]? ≠ some Slot.free) →
        exec (.mapPreset line) s = .next (preset s 0x09#8 0x00#8)) ∧
      (∀ i, s.mode = .uninit → home < s.poolBase → ¬ mapped →
        s.slots[i]? = some .free → (∀ j < i, s.slots[j]? ≠ some Slot.free) →
        exec (.mapPreset line) s = .next
          (preset { s with slots := s.slots.set i (.active home .preset s.patrol.pass) } 0x01#8
            (BitVec.ofNat 8 i)))) ∧
    (∀ number : Byte, s.frame.awaits [0x11#8, number] = true → s.slots.length = 64 →
      let i := number.toNat
      (s.mode ≠ .uninit → exec (.unmapSlot number) s = .next (answer s 0x11#8 [number] [0x04#8])) ∧
      (s.mode = .uninit → 64 ≤ i → exec (.unmapSlot number) s = .next (answer s 0x11#8 [number] [0x03#8])) ∧
      (∀ slot, s.mode = .uninit → s.slots[i]? = some slot →
        exec (.unmapSlot number) s = .next
          (if slot = .absent ∨ slot = .free then answer s 0x11#8 [number] [0x07#8]
          else answer { s with slots := s.slots.set i .free } 0x11#8 [number] [0x01#8])))

/-- MIGRATE and CANCEL, with the tests in the order of R134 and R148 and the answer of each. A CANCEL of a queued line
removes its request, and its source's QUEUED entry returns to WATCH; one of the copy in flight makes the abort pending while
a copy step or a host grant holds the port, and otherwise at once, when in QUIESCING an empty Write-Back Queue makes the mode
QUIET (R107, R122, R133, R134, R148, R150, R151, R167, R200). That MIGRATION_FAILED comes before QUIET_REACHED is the model's
(assumption 11). -/
def Obligations.RequestsAndCancels : Prop :=
  ∀ (s : State) (line : BitVec 24), s.award = none →
    let home := line.toNat
    let answer (t : State) (code status : Byte) : State :=
      { t with frame := Frame.executed code (bigEndian 3 home) [status] }
    let queued := home ∈ s.migrations.map MigrationRequest.home
    let inFlight := home ∈ (s.copy.map Copy.home).toList
    let back (lineOfEntry : Nat) (was : HealthState) : List (Option HealthEntry) :=
      s.health.map fun place => place.map fun e =>
        if e.line = lineOfEntry ∧ e.state = was then { e with state := .watch, deferred := false } else e
    (s.frame.awaits (0x12#8 :: bigEndian 3 home) = true →
      (s.mode = .uninit ∨ s.mode = .sweeping → exec (.migrate line) s = .next (answer s 0x12#8 0x04#8)) ∧
      (s.mode ≠ .uninit → s.mode ≠ .sweeping →
        (s.poolBase ≤ home → exec (.migrate line) s = .next (answer s 0x12#8 0x03#8)) ∧
        (home < s.poolBase → queued ∨ inFlight → exec (.migrate line) s = .next (answer s 0x12#8 0x06#8)) ∧
        (home < s.poolBase → ¬ queued → ¬ inFlight → 4 ≤ s.migrations.length →
          exec (.migrate line) s = .next (answer s 0x12#8 0x05#8)) ∧
        (home < s.poolBase → ¬ queued → ¬ inFlight → s.migrations.length < 4 →
          exec (.migrate line) s = .next (answer
            { s with migrations := s.migrations ++ [{ home := home, reason := .command }] } 0x12#8 0x01#8)))) ∧
    (s.frame.awaits (0x13#8 :: bigEndian 3 home) = true →
      (s.poolBase ≤ home → exec (.cancel line) s = .next (answer s 0x13#8 0x03#8)) ∧
      (home < s.poolBase → ¬ queued → ¬ inFlight → exec (.cancel line) s = .next (answer s 0x13#8 0x07#8)) ∧
      (home < s.poolBase → queued → ¬ inFlight →
        exec (.cancel line) s = .next (answer
          { s with
            migrations := s.migrations.filter fun r => r.home != home
            health := back (s.translate home) .queued } 0x13#8 0x01#8)) ∧
      (∀ c, home < s.poolBase → s.copy = some c → c.home = home →
        (s.port.holder = .host ∨ s.port.holder = .step .copy →
          exec (.cancel line) s = .next
            (answer { s with copy := some { c with abortPending := true } } 0x13#8 0x01#8)) ∧
        (s.port.holder ≠ .host → s.port.holder ≠ .step .copy →
          let dropped : State := State.append
            { s with
              slots := s.slots.set c.target .free
              health := back c.sourceLine .moving
              copy := none }
            (.migrationFailed home .cancelled)
          exec (.cancel line) s = .next (answer
            (if s.mode = .quiescing ∧ s.writeBacks = [] then
              State.append { dropped with mode := .quiet } .quietReached
            else dropped) 0x13#8 0x01#8))))

/-- POP_REPORT removes the head record and returns it, with ALERT re-evaluated, and answers EMPTY on an empty queue;
CLEAR_HEALTH removes every entry in WATCH and UNREPAIRABLE, in every mode. A report record, which PEEK_REPORT returns too, is
laid out byte by byte: sequence, pass, kind and qualifier Q, field F; MIGRATION_DONE carries its target slot and source in
place of the pass (R109, R177, R181, R182, R183, R199, R202, R206, R208, R209). -/
def Obligations.PopsAndClears : Prop :=
  ∀ s : State, s.award = none →
    (s.frame.awaits [0x09#8] = true →
      (∀ r rest, s.reports = r :: rest →
        exec .popReport s = .next { s with
          reports := rest
          alert := alertCondition s.settings.alertMask rest
          frame := Frame.executed 0x09#8 [] (0x01#8 :: r.bytes) }) ∧
      (s.reports = [] →
        exec .popReport s = .next { s with
          frame := Frame.executed 0x09#8 [] (0x08#8 :: List.replicate 8 0x00#8) })) ∧
    (s.frame.awaits [0x14#8] = true →
      exec .clearHealth s = .next { s with
        health := s.health.map fun place => place.filter fun e => e.state == .queued || e.state == .moving
        frame := Frame.executed 0x14#8 [] [0x01#8] }) ∧
    (∀ r : ReportRecord,
      let byte (n : Nat) : Byte := BitVec.ofNat 8 n
      let laidOut (kind q f : Nat) : List Byte :=
        [byte (r.sequence.toNat / 256), byte r.sequence.toNat]
          ++ (match r.report with
            | .migrationDone _ target none _ _ => [byte target, 0x7F#8]
            | .migrationDone _ target (some slot) _ _ => [byte target, byte slot]
            | _ => [byte (r.pass.toNat / 256), byte r.pass.toNat])
          ++ [byte (16 * q + kind), byte (f / 65536), byte (f / 256), byte f]
      r.bytes = match r.report with
        | .newWeakLine line index isCheck source =>
          laidOut 1 ((if isCheck then 1 else 0) + (if source = .patrol then 2 else 0)) (8 * line + index)
        | .uncorrectable word isMulti source =>
          laidOut 2 ((if isMulti then 1 else 0) + match source with
            | .host => 0
            | .patrol => 2
            | .migration => 4) word
        | .hostRefused address direction reason =>
          laidOut 3 ((if direction = .write then 1 else 0) + match reason with
            | .range => 0
            | .notReady => 2
            | .mergeRefused => 4
            | .poisoned => 6) address.toNat
        | .migrationDone home _ _ carried poisoned => laidOut 4 carried (home + 524288 * poisoned)
        | .migrationFailed home reason => laidOut 5 (if reason = .cancelled then 1 else 0) home
        | .migrationDeferred home => laidOut 6 0 home
        | .healthFull line => laidOut 7 0 line
        | .sweepDone lines => laidOut 8 0 lines
        | .quietReached => laidOut 9 0 0
        | .warmReset before discarded home =>
          laidOut 10 (match before with
            | .uninit => 0
            | .sweeping => 1
            | .normal => 2
            | .quiescing => 3
            | .quiet => 4)
            (match home with
            | none => discarded
            | some home => discarded + 16 + 32 * home)
        | .lost count => laidOut 11 0 count)

/-- The mode commands: where each is accepted, what it does there, and WRONG_MODE elsewhere. START_SWEEP begins at the first
word and refuses a waiting cycle, ADOPT and RESUME enter NORMAL with debt and timer 0, and QUIESCE stops the patrol and reaches
QUIET at once where the quiesce conditions hold (R20, R22, R48, R85, R86, R161, R165, R166, R167, R170, R202). -/
def Obligations.ModeCommandsAnswer : Prop :=
  ∀ s : State, s.award = none →
    let answer (t : State) (code status : Byte) : State := { t with frame := Frame.executed code [] [status] }
    let rested : Patrol := { s.patrol with debt := 0, timer := 0 }
    (s.frame.awaits [0x20#8] = true →
      let begun : State := { s with mode := .sweeping, sweepLine := 0, sweepIndex := 0 }
      (s.mode ∈ [.sweeping, .normal, .quiescing] → exec .startSweep s = .next (answer s 0x20#8 0x04#8)) ∧
      (s.mode ∈ [.uninit, .quiet] → s.host.state ≠ .waiting →
        exec .startSweep s = .next (answer begun.decidedIfFree 0x20#8 0x01#8)) ∧
      (∀ r, s.mode ∈ [.uninit, .quiet] → s.host.state = .waiting → s.host.record = some r →
        let dropped : CycleRecord :=
          { r with writeBackPass := false, patrolPass := false, starvationPass := false }
        exec .startSweep s = .next (answer
          (State.append
            { begun with
              host := s.answered dropped (.refused .notReady) (if r.kind = .read then some 0#32 else none) }
            (.hostRefused r.address (if r.kind = .read then .read else .write) .notReady)).decidedIfFree 0x20#8 0x01#8))) ∧
    (s.frame.awaits [0x21#8] = true →
      (s.mode = .uninit → exec .adopt s = .next (answer { s with mode := .normal, patrol := rested } 0x21#8 0x01#8)) ∧
      (s.mode ≠ .uninit → exec .adopt s = .next (answer s 0x21#8 0x04#8))) ∧
    (s.frame.awaits [0x22#8] = true →
      (s.mode ∈ [.uninit, .sweeping, .quiet] → exec .quiesce s = .next (answer s 0x22#8 0x04#8)) ∧
      (s.mode = .quiescing → exec .quiesce s = .next (answer s 0x22#8 0x01#8)) ∧
      (s.mode = .normal →
        (s.copy ≠ none ∨ s.writeBacks ≠ [] →
          exec .quiesce s = .next (answer { s with mode := .quiescing, patrol := rested } 0x22#8 0x01#8)) ∧
        (s.copy = none → s.writeBacks = [] →
          exec .quiesce s = .next (answer
            (State.append { s with mode := .quiet, patrol := rested } .quietReached) 0x22#8 0x01#8)))) ∧
    (s.frame.awaits [0x23#8] = true →
      (s.mode ∈ [.quiescing, .quiet] →
        exec .resume s = .next (answer { s with mode := .normal, patrol := rested } 0x23#8 0x01#8)) ∧
      (s.mode ∈ [.uninit, .sweeping, .normal] → exec .resume s = .next (answer s 0x23#8 0x04#8)))
end

