-- ==== Sys2Proof/Laws/State.lean ====
section
/-! SUPPORT. What each plain update of the state leaves in each field. No later proof unfolds a record update. -/

namespace Sys2Proof.Machine

variable (s : State)

/-! ### writeCell -/

@[simp] theorem State.writeCell_hstb (a : Nat) (w : StoredWord) : (s.writeCell a w).hstb = s.hstb := rfl
@[simp] theorem State.writeCell_strobeHeld (a : Nat) (w : StoredWord) :
    (s.writeCell a w).strobeHeld = s.strobeHeld := rfl
@[simp] theorem State.writeCell_hreset (a : Nat) (w : StoredWord) : (s.writeCell a w).hreset = s.hreset := rfl
@[simp] theorem State.writeCell_poreset (a : Nat) (w : StoredWord) : (s.writeCell a w).poreset = s.poreset := rfl
@[simp] theorem State.writeCell_mcs (a : Nat) (w : StoredWord) : (s.writeCell a w).mcs = s.mcs := rfl
@[simp] theorem State.writeCell_host (a : Nat) (w : StoredWord) : (s.writeCell a w).host = s.host := rfl
@[simp] theorem State.writeCell_port (a : Nat) (w : StoredWord) : (s.writeCell a w).port = s.port := rfl
@[simp] theorem State.writeCell_award (a : Nat) (w : StoredWord) : (s.writeCell a w).award = s.award := rfl
@[simp] theorem State.writeCell_decisionOpen (a : Nat) (w : StoredWord) :
    (s.writeCell a w).decisionOpen = s.decisionOpen := rfl
@[simp] theorem State.writeCell_starvation (a : Nat) (w : StoredWord) :
    (s.writeCell a w).starvation = s.starvation := rfl
@[simp] theorem State.writeCell_writeBacks (a : Nat) (w : StoredWord) :
    (s.writeCell a w).writeBacks = s.writeBacks := rfl
@[simp] theorem State.writeCell_patrol (a : Nat) (w : StoredWord) : (s.writeCell a w).patrol = s.patrol := rfl
@[simp] theorem State.writeCell_health (a : Nat) (w : StoredWord) : (s.writeCell a w).health = s.health := rfl
@[simp] theorem State.writeCell_slots (a : Nat) (w : StoredWord) : (s.writeCell a w).slots = s.slots := rfl
@[simp] theorem State.writeCell_migrations (a : Nat) (w : StoredWord) :
    (s.writeCell a w).migrations = s.migrations := rfl
@[simp] theorem State.writeCell_copy (a : Nat) (w : StoredWord) : (s.writeCell a w).copy = s.copy := rfl
@[simp] theorem State.writeCell_mode (a : Nat) (w : StoredWord) : (s.writeCell a w).mode = s.mode := rfl
@[simp] theorem State.writeCell_sweepLine (a : Nat) (w : StoredWord) :
    (s.writeCell a w).sweepLine = s.sweepLine := rfl
@[simp] theorem State.writeCell_sweepIndex (a : Nat) (w : StoredWord) :
    (s.writeCell a w).sweepIndex = s.sweepIndex := rfl
@[simp] theorem State.writeCell_reports (a : Nat) (w : StoredWord) : (s.writeCell a w).reports = s.reports := rfl
@[simp] theorem State.writeCell_sequence (a : Nat) (w : StoredWord) : (s.writeCell a w).sequence = s.sequence := rfl
@[simp] theorem State.writeCell_alert (a : Nat) (w : StoredWord) : (s.writeCell a w).alert = s.alert := rfl
@[simp] theorem State.writeCell_settings (a : Nat) (w : StoredWord) : (s.writeCell a w).settings = s.settings := rfl
@[simp] theorem State.writeCell_frame (a : Nat) (w : StoredWord) : (s.writeCell a w).frame = s.frame := rfl
@[simp] theorem State.writeCell_cells (a : Nat) (w : StoredWord) :
    (s.writeCell a w).cells = setCell s.cells a w := rfl
@[simp] theorem State.writeCell_freeIndex (a : Nat) (w : StoredWord) :
    (s.writeCell a w).freeIndex = s.freeIndex := rfl
@[simp] theorem State.writeCell_pending (a : Nat) (w : StoredWord) : (s.writeCell a w).pending = s.pending := rfl

/-! ### setSlot -/

@[simp] theorem State.setSlot_hstb (n : Nat) (x : Slot) : (s.setSlot n x).hstb = s.hstb := rfl
@[simp] theorem State.setSlot_strobeHeld (n : Nat) (x : Slot) : (s.setSlot n x).strobeHeld = s.strobeHeld := rfl
@[simp] theorem State.setSlot_hreset (n : Nat) (x : Slot) : (s.setSlot n x).hreset = s.hreset := rfl
@[simp] theorem State.setSlot_poreset (n : Nat) (x : Slot) : (s.setSlot n x).poreset = s.poreset := rfl
@[simp] theorem State.setSlot_mcs (n : Nat) (x : Slot) : (s.setSlot n x).mcs = s.mcs := rfl
@[simp] theorem State.setSlot_host (n : Nat) (x : Slot) : (s.setSlot n x).host = s.host := rfl
@[simp] theorem State.setSlot_port (n : Nat) (x : Slot) : (s.setSlot n x).port = s.port := rfl
@[simp] theorem State.setSlot_award (n : Nat) (x : Slot) : (s.setSlot n x).award = s.award := rfl
@[simp] theorem State.setSlot_decisionOpen (n : Nat) (x : Slot) : (s.setSlot n x).decisionOpen = s.decisionOpen := rfl
@[simp] theorem State.setSlot_starvation (n : Nat) (x : Slot) : (s.setSlot n x).starvation = s.starvation := rfl
@[simp] theorem State.setSlot_writeBacks (n : Nat) (x : Slot) : (s.setSlot n x).writeBacks = s.writeBacks := rfl
@[simp] theorem State.setSlot_patrol (n : Nat) (x : Slot) : (s.setSlot n x).patrol = s.patrol := rfl
@[simp] theorem State.setSlot_health (n : Nat) (x : Slot) : (s.setSlot n x).health = s.health := rfl
@[simp] theorem State.setSlot_slots (n : Nat) (x : Slot) : (s.setSlot n x).slots = s.slots.set n x := rfl
@[simp] theorem State.setSlot_migrations (n : Nat) (x : Slot) : (s.setSlot n x).migrations = s.migrations := rfl
@[simp] theorem State.setSlot_copy (n : Nat) (x : Slot) : (s.setSlot n x).copy = s.copy := rfl
@[simp] theorem State.setSlot_mode (n : Nat) (x : Slot) : (s.setSlot n x).mode = s.mode := rfl
@[simp] theorem State.setSlot_sweepLine (n : Nat) (x : Slot) : (s.setSlot n x).sweepLine = s.sweepLine := rfl
@[simp] theorem State.setSlot_sweepIndex (n : Nat) (x : Slot) : (s.setSlot n x).sweepIndex = s.sweepIndex := rfl
@[simp] theorem State.setSlot_reports (n : Nat) (x : Slot) : (s.setSlot n x).reports = s.reports := rfl
@[simp] theorem State.setSlot_sequence (n : Nat) (x : Slot) : (s.setSlot n x).sequence = s.sequence := rfl
@[simp] theorem State.setSlot_alert (n : Nat) (x : Slot) : (s.setSlot n x).alert = s.alert := rfl
@[simp] theorem State.setSlot_settings (n : Nat) (x : Slot) : (s.setSlot n x).settings = s.settings := rfl
@[simp] theorem State.setSlot_frame (n : Nat) (x : Slot) : (s.setSlot n x).frame = s.frame := rfl
@[simp] theorem State.setSlot_cells (n : Nat) (x : Slot) : (s.setSlot n x).cells = s.cells := rfl
@[simp] theorem State.setSlot_freeIndex (n : Nat) (x : Slot) : (s.setSlot n x).freeIndex = s.freeIndex := rfl
@[simp] theorem State.setSlot_pending (n : Nat) (x : Slot) : (s.setSlot n x).pending = s.pending := rfl

/-! ### updateHealth -/

@[simp] theorem State.updateHealth_hstb (l : Nat) (f : HealthEntry → HealthEntry) :
    (s.updateHealth l f).hstb = s.hstb := rfl
@[simp] theorem State.updateHealth_strobeHeld (l : Nat) (f : HealthEntry → HealthEntry) :
    (s.updateHealth l f).strobeHeld = s.strobeHeld := rfl
@[simp] theorem State.updateHealth_hreset (l : Nat) (f : HealthEntry → HealthEntry) :
    (s.updateHealth l f).hreset = s.hreset := rfl
@[simp] theorem State.updateHealth_poreset (l : Nat) (f : HealthEntry → HealthEntry) :
    (s.updateHealth l f).poreset = s.poreset := rfl
@[simp] theorem State.updateHealth_mcs (l : Nat) (f : HealthEntry → HealthEntry) :
    (s.updateHealth l f).mcs = s.mcs := rfl
@[simp] theorem State.updateHealth_host (l : Nat) (f : HealthEntry → HealthEntry) :
    (s.updateHealth l f).host = s.host := rfl
@[simp] theorem State.updateHealth_port (l : Nat) (f : HealthEntry → HealthEntry) :
    (s.updateHealth l f).port = s.port := rfl
@[simp] theorem State.updateHealth_award (l : Nat) (f : HealthEntry → HealthEntry) :
    (s.updateHealth l f).award = s.award := rfl
@[simp] theorem State.updateHealth_decisionOpen (l : Nat) (f : HealthEntry → HealthEntry) :
    (s.updateHealth l f).decisionOpen = s.decisionOpen := rfl
@[simp] theorem State.updateHealth_starvation (l : Nat) (f : HealthEntry → HealthEntry) :
    (s.updateHealth l f).starvation = s.starvation := rfl
@[simp] theorem State.updateHealth_writeBacks (l : Nat) (f : HealthEntry → HealthEntry) :
    (s.updateHealth l f).writeBacks = s.writeBacks := rfl
@[simp] theorem State.updateHealth_patrol (l : Nat) (f : HealthEntry → HealthEntry) :
    (s.updateHealth l f).patrol = s.patrol := rfl
@[simp] theorem State.updateHealth_health (l : Nat) (f : HealthEntry → HealthEntry) :
    (s.updateHealth l f).health = s.health.map (Option.map fun e => if e.line = l then f e else e) := rfl
@[simp] theorem State.updateHealth_slots (l : Nat) (f : HealthEntry → HealthEntry) :
    (s.updateHealth l f).slots = s.slots := rfl
@[simp] theorem State.updateHealth_migrations (l : Nat) (f : HealthEntry → HealthEntry) :
    (s.updateHealth l f).migrations = s.migrations := rfl
@[simp] theorem State.updateHealth_copy (l : Nat) (f : HealthEntry → HealthEntry) :
    (s.updateHealth l f).copy = s.copy := rfl
@[simp] theorem State.updateHealth_mode (l : Nat) (f : HealthEntry → HealthEntry) :
    (s.updateHealth l f).mode = s.mode := rfl
@[simp] theorem State.updateHealth_sweepLine (l : Nat) (f : HealthEntry → HealthEntry) :
    (s.updateHealth l f).sweepLine = s.sweepLine := rfl
@[simp] theorem State.updateHealth_sweepIndex (l : Nat) (f : HealthEntry → HealthEntry) :
    (s.updateHealth l f).sweepIndex = s.sweepIndex := rfl
@[simp] theorem State.updateHealth_reports (l : Nat) (f : HealthEntry → HealthEntry) :
    (s.updateHealth l f).reports = s.reports := rfl
@[simp] theorem State.updateHealth_sequence (l : Nat) (f : HealthEntry → HealthEntry) :
    (s.updateHealth l f).sequence = s.sequence := rfl
@[simp] theorem State.updateHealth_alert (l : Nat) (f : HealthEntry → HealthEntry) :
    (s.updateHealth l f).alert = s.alert := rfl
@[simp] theorem State.updateHealth_settings (l : Nat) (f : HealthEntry → HealthEntry) :
    (s.updateHealth l f).settings = s.settings := rfl
@[simp] theorem State.updateHealth_frame (l : Nat) (f : HealthEntry → HealthEntry) :
    (s.updateHealth l f).frame = s.frame := rfl
@[simp] theorem State.updateHealth_cells (l : Nat) (f : HealthEntry → HealthEntry) :
    (s.updateHealth l f).cells = s.cells := rfl
@[simp] theorem State.updateHealth_freeIndex (l : Nat) (f : HealthEntry → HealthEntry) :
    (s.updateHealth l f).freeIndex = s.freeIndex := rfl
@[simp] theorem State.updateHealth_pending (l : Nat) (f : HealthEntry → HealthEntry) :
    (s.updateHealth l f).pending = s.pending := rfl

/-! ### removeHealth -/

@[simp] theorem State.removeHealth_hstb (g : HealthEntry → Bool) : (s.removeHealth g).hstb = s.hstb := rfl
@[simp] theorem State.removeHealth_strobeHeld (g : HealthEntry → Bool) :
    (s.removeHealth g).strobeHeld = s.strobeHeld := rfl
@[simp] theorem State.removeHealth_hreset (g : HealthEntry → Bool) : (s.removeHealth g).hreset = s.hreset := rfl
@[simp] theorem State.removeHealth_poreset (g : HealthEntry → Bool) : (s.removeHealth g).poreset = s.poreset := rfl
@[simp] theorem State.removeHealth_mcs (g : HealthEntry → Bool) : (s.removeHealth g).mcs = s.mcs := rfl
@[simp] theorem State.removeHealth_host (g : HealthEntry → Bool) : (s.removeHealth g).host = s.host := rfl
@[simp] theorem State.removeHealth_port (g : HealthEntry → Bool) : (s.removeHealth g).port = s.port := rfl
@[simp] theorem State.removeHealth_award (g : HealthEntry → Bool) : (s.removeHealth g).award = s.award := rfl
@[simp] theorem State.removeHealth_decisionOpen (g : HealthEntry → Bool) :
    (s.removeHealth g).decisionOpen = s.decisionOpen := rfl
@[simp] theorem State.removeHealth_starvation (g : HealthEntry → Bool) :
    (s.removeHealth g).starvation = s.starvation := rfl
@[simp] theorem State.removeHealth_writeBacks (g : HealthEntry → Bool) :
    (s.removeHealth g).writeBacks = s.writeBacks := rfl
@[simp] theorem State.removeHealth_patrol (g : HealthEntry → Bool) : (s.removeHealth g).patrol = s.patrol := rfl
@[simp] theorem State.removeHealth_health (g : HealthEntry → Bool) :
    (s.removeHealth g).health = s.health.map fun place => place.filter fun e => !g e := rfl
@[simp] theorem State.removeHealth_slots (g : HealthEntry → Bool) : (s.removeHealth g).slots = s.slots := rfl
@[simp] theorem State.removeHealth_migrations (g : HealthEntry → Bool) :
    (s.removeHealth g).migrations = s.migrations := rfl
@[simp] theorem State.removeHealth_copy (g : HealthEntry → Bool) : (s.removeHealth g).copy = s.copy := rfl
@[simp] theorem State.removeHealth_mode (g : HealthEntry → Bool) : (s.removeHealth g).mode = s.mode := rfl
@[simp] theorem State.removeHealth_sweepLine (g : HealthEntry → Bool) :
    (s.removeHealth g).sweepLine = s.sweepLine := rfl
@[simp] theorem State.removeHealth_sweepIndex (g : HealthEntry → Bool) :
    (s.removeHealth g).sweepIndex = s.sweepIndex := rfl
@[simp] theorem State.removeHealth_reports (g : HealthEntry → Bool) : (s.removeHealth g).reports = s.reports := rfl
@[simp] theorem State.removeHealth_sequence (g : HealthEntry → Bool) : (s.removeHealth g).sequence = s.sequence := rfl
@[simp] theorem State.removeHealth_alert (g : HealthEntry → Bool) : (s.removeHealth g).alert = s.alert := rfl
@[simp] theorem State.removeHealth_settings (g : HealthEntry → Bool) : (s.removeHealth g).settings = s.settings := rfl
@[simp] theorem State.removeHealth_frame (g : HealthEntry → Bool) : (s.removeHealth g).frame = s.frame := rfl
@[simp] theorem State.removeHealth_cells (g : HealthEntry → Bool) : (s.removeHealth g).cells = s.cells := rfl
@[simp] theorem State.removeHealth_freeIndex (g : HealthEntry → Bool) :
    (s.removeHealth g).freeIndex = s.freeIndex := rfl
@[simp] theorem State.removeHealth_pending (g : HealthEntry → Bool) : (s.removeHealth g).pending = s.pending := rfl

/-! ### beginAccess -/

@[simp] theorem State.beginAccess_hstb (h : PortHolder) (a : Access) : (s.beginAccess h a).hstb = s.hstb := rfl
@[simp] theorem State.beginAccess_strobeHeld (h : PortHolder) (a : Access) :
    (s.beginAccess h a).strobeHeld = s.strobeHeld := rfl
@[simp] theorem State.beginAccess_hreset (h : PortHolder) (a : Access) : (s.beginAccess h a).hreset = s.hreset := rfl
@[simp] theorem State.beginAccess_poreset (h : PortHolder) (a : Access) :
    (s.beginAccess h a).poreset = s.poreset := rfl
@[simp] theorem State.beginAccess_mcs (h : PortHolder) (a : Access) : (s.beginAccess h a).mcs = s.mcs := rfl
@[simp] theorem State.beginAccess_host (h : PortHolder) (a : Access) : (s.beginAccess h a).host = s.host := rfl
@[simp] theorem State.beginAccess_port (h : PortHolder) (a : Access) :
    (s.beginAccess h a).port = { holder := h, access := some a, gap := false, abandoned := false } := rfl
@[simp] theorem State.beginAccess_award (h : PortHolder) (a : Access) : (s.beginAccess h a).award = s.award := rfl
@[simp] theorem State.beginAccess_decisionOpen (h : PortHolder) (a : Access) :
    (s.beginAccess h a).decisionOpen = s.decisionOpen := rfl
@[simp] theorem State.beginAccess_starvation (h : PortHolder) (a : Access) :
    (s.beginAccess h a).starvation = s.starvation := rfl
@[simp] theorem State.beginAccess_writeBacks (h : PortHolder) (a : Access) :
    (s.beginAccess h a).writeBacks = s.writeBacks := rfl
@[simp] theorem State.beginAccess_patrol (h : PortHolder) (a : Access) : (s.beginAccess h a).patrol = s.patrol := rfl
@[simp] theorem State.beginAccess_health (h : PortHolder) (a : Access) : (s.beginAccess h a).health = s.health := rfl
@[simp] theorem State.beginAccess_slots (h : PortHolder) (a : Access) : (s.beginAccess h a).slots = s.slots := rfl
@[simp] theorem State.beginAccess_migrations (h : PortHolder) (a : Access) :
    (s.beginAccess h a).migrations = s.migrations := rfl
@[simp] theorem State.beginAccess_copy (h : PortHolder) (a : Access) : (s.beginAccess h a).copy = s.copy := rfl
@[simp] theorem State.beginAccess_mode (h : PortHolder) (a : Access) : (s.beginAccess h a).mode = s.mode := rfl
@[simp] theorem State.beginAccess_sweepLine (h : PortHolder) (a : Access) :
    (s.beginAccess h a).sweepLine = s.sweepLine := rfl
@[simp] theorem State.beginAccess_sweepIndex (h : PortHolder) (a : Access) :
    (s.beginAccess h a).sweepIndex = s.sweepIndex := rfl
@[simp] theorem State.beginAccess_reports (h : PortHolder) (a : Access) :
    (s.beginAccess h a).reports = s.reports := rfl
@[simp] theorem State.beginAccess_sequence (h : PortHolder) (a : Access) :
    (s.beginAccess h a).sequence = s.sequence := rfl
@[simp] theorem State.beginAccess_alert (h : PortHolder) (a : Access) : (s.beginAccess h a).alert = s.alert := rfl
@[simp] theorem State.beginAccess_settings (h : PortHolder) (a : Access) :
    (s.beginAccess h a).settings = s.settings := rfl
@[simp] theorem State.beginAccess_frame (h : PortHolder) (a : Access) : (s.beginAccess h a).frame = s.frame := rfl
@[simp] theorem State.beginAccess_cells (h : PortHolder) (a : Access) : (s.beginAccess h a).cells = s.cells := rfl
@[simp] theorem State.beginAccess_freeIndex (h : PortHolder) (a : Access) :
    (s.beginAccess h a).freeIndex = s.freeIndex := rfl
@[simp] theorem State.beginAccess_pending (h : PortHolder) (a : Access) :
    (s.beginAccess h a).pending = s.pending := rfl

/-! ### nextAccess -/

@[simp] theorem State.nextAccess_hstb (a : Access) : (s.nextAccess a).hstb = s.hstb := rfl
@[simp] theorem State.nextAccess_strobeHeld (a : Access) : (s.nextAccess a).strobeHeld = s.strobeHeld := rfl
@[simp] theorem State.nextAccess_hreset (a : Access) : (s.nextAccess a).hreset = s.hreset := rfl
@[simp] theorem State.nextAccess_poreset (a : Access) : (s.nextAccess a).poreset = s.poreset := rfl
@[simp] theorem State.nextAccess_mcs (a : Access) : (s.nextAccess a).mcs = s.mcs := rfl
@[simp] theorem State.nextAccess_host (a : Access) : (s.nextAccess a).host = s.host := rfl
@[simp] theorem State.nextAccess_port (a : Access) :
    (s.nextAccess a).port = { s.port with access := some a, gap := false } := rfl
@[simp] theorem State.nextAccess_award (a : Access) : (s.nextAccess a).award = s.award := rfl
@[simp] theorem State.nextAccess_decisionOpen (a : Access) : (s.nextAccess a).decisionOpen = s.decisionOpen := rfl
@[simp] theorem State.nextAccess_starvation (a : Access) : (s.nextAccess a).starvation = s.starvation := rfl
@[simp] theorem State.nextAccess_writeBacks (a : Access) : (s.nextAccess a).writeBacks = s.writeBacks := rfl
@[simp] theorem State.nextAccess_patrol (a : Access) : (s.nextAccess a).patrol = s.patrol := rfl
@[simp] theorem State.nextAccess_health (a : Access) : (s.nextAccess a).health = s.health := rfl
@[simp] theorem State.nextAccess_slots (a : Access) : (s.nextAccess a).slots = s.slots := rfl
@[simp] theorem State.nextAccess_migrations (a : Access) : (s.nextAccess a).migrations = s.migrations := rfl
@[simp] theorem State.nextAccess_copy (a : Access) : (s.nextAccess a).copy = s.copy := rfl
@[simp] theorem State.nextAccess_mode (a : Access) : (s.nextAccess a).mode = s.mode := rfl
@[simp] theorem State.nextAccess_sweepLine (a : Access) : (s.nextAccess a).sweepLine = s.sweepLine := rfl
@[simp] theorem State.nextAccess_sweepIndex (a : Access) : (s.nextAccess a).sweepIndex = s.sweepIndex := rfl
@[simp] theorem State.nextAccess_reports (a : Access) : (s.nextAccess a).reports = s.reports := rfl
@[simp] theorem State.nextAccess_sequence (a : Access) : (s.nextAccess a).sequence = s.sequence := rfl
@[simp] theorem State.nextAccess_alert (a : Access) : (s.nextAccess a).alert = s.alert := rfl
@[simp] theorem State.nextAccess_settings (a : Access) : (s.nextAccess a).settings = s.settings := rfl
@[simp] theorem State.nextAccess_frame (a : Access) : (s.nextAccess a).frame = s.frame := rfl
@[simp] theorem State.nextAccess_cells (a : Access) : (s.nextAccess a).cells = s.cells := rfl
@[simp] theorem State.nextAccess_freeIndex (a : Access) : (s.nextAccess a).freeIndex = s.freeIndex := rfl
@[simp] theorem State.nextAccess_pending (a : Access) : (s.nextAccess a).pending = s.pending := rfl

/-! ### nextHostAccess -/

@[simp] theorem State.nextHostAccess_hstb (a : Access) : (s.nextHostAccess a).hstb = s.hstb := rfl
@[simp] theorem State.nextHostAccess_strobeHeld (a : Access) : (s.nextHostAccess a).strobeHeld = s.strobeHeld := rfl
@[simp] theorem State.nextHostAccess_hreset (a : Access) : (s.nextHostAccess a).hreset = s.hreset := rfl
@[simp] theorem State.nextHostAccess_poreset (a : Access) : (s.nextHostAccess a).poreset = s.poreset := rfl
@[simp] theorem State.nextHostAccess_mcs (a : Access) : (s.nextHostAccess a).mcs = s.mcs := rfl
@[simp] theorem State.nextHostAccess_host (a : Access) : (s.nextHostAccess a).host = s.host := rfl
@[simp] theorem State.nextHostAccess_port (a : Access) :
    (s.nextHostAccess a).port = { s.port with access := some a, gap := !Config.laterAccessBegun s.freeIndex } := rfl
@[simp] theorem State.nextHostAccess_award (a : Access) : (s.nextHostAccess a).award = s.award := rfl
@[simp] theorem State.nextHostAccess_decisionOpen (a : Access) :
    (s.nextHostAccess a).decisionOpen = s.decisionOpen := rfl
@[simp] theorem State.nextHostAccess_starvation (a : Access) : (s.nextHostAccess a).starvation = s.starvation := rfl
@[simp] theorem State.nextHostAccess_writeBacks (a : Access) : (s.nextHostAccess a).writeBacks = s.writeBacks := rfl
@[simp] theorem State.nextHostAccess_patrol (a : Access) : (s.nextHostAccess a).patrol = s.patrol := rfl
@[simp] theorem State.nextHostAccess_health (a : Access) : (s.nextHostAccess a).health = s.health := rfl
@[simp] theorem State.nextHostAccess_slots (a : Access) : (s.nextHostAccess a).slots = s.slots := rfl
@[simp] theorem State.nextHostAccess_migrations (a : Access) : (s.nextHostAccess a).migrations = s.migrations := rfl
@[simp] theorem State.nextHostAccess_copy (a : Access) : (s.nextHostAccess a).copy = s.copy := rfl
@[simp] theorem State.nextHostAccess_mode (a : Access) : (s.nextHostAccess a).mode = s.mode := rfl
@[simp] theorem State.nextHostAccess_sweepLine (a : Access) : (s.nextHostAccess a).sweepLine = s.sweepLine := rfl
@[simp] theorem State.nextHostAccess_sweepIndex (a : Access) : (s.nextHostAccess a).sweepIndex = s.sweepIndex := rfl
@[simp] theorem State.nextHostAccess_reports (a : Access) : (s.nextHostAccess a).reports = s.reports := rfl
@[simp] theorem State.nextHostAccess_sequence (a : Access) : (s.nextHostAccess a).sequence = s.sequence := rfl
@[simp] theorem State.nextHostAccess_alert (a : Access) : (s.nextHostAccess a).alert = s.alert := rfl
@[simp] theorem State.nextHostAccess_settings (a : Access) : (s.nextHostAccess a).settings = s.settings := rfl
@[simp] theorem State.nextHostAccess_frame (a : Access) : (s.nextHostAccess a).frame = s.frame := rfl
@[simp] theorem State.nextHostAccess_cells (a : Access) : (s.nextHostAccess a).cells = s.cells := rfl
@[simp] theorem State.nextHostAccess_freeIndex (a : Access) : (s.nextHostAccess a).freeIndex = s.freeIndex + 1 := rfl
@[simp] theorem State.nextHostAccess_pending (a : Access) : (s.nextHostAccess a).pending = s.pending := rfl

/-! ### whileIdle -/

@[simp] theorem State.whileIdle_hstb : (s.whileIdle).hstb = s.hstb := rfl
@[simp] theorem State.whileIdle_strobeHeld : (s.whileIdle).strobeHeld = s.strobeHeld := rfl
@[simp] theorem State.whileIdle_hreset : (s.whileIdle).hreset = s.hreset := rfl
@[simp] theorem State.whileIdle_poreset : (s.whileIdle).poreset = s.poreset := rfl
@[simp] theorem State.whileIdle_mcs : (s.whileIdle).mcs = s.mcs := rfl
@[simp] theorem State.whileIdle_host : (s.whileIdle).host = s.host := rfl
@[simp] theorem State.whileIdle_port : (s.whileIdle).port = { s.port with gap := false } := rfl
@[simp] theorem State.whileIdle_award : (s.whileIdle).award = s.award := rfl
@[simp] theorem State.whileIdle_decisionOpen : (s.whileIdle).decisionOpen = s.decisionOpen := rfl
@[simp] theorem State.whileIdle_starvation : (s.whileIdle).starvation = s.starvation := rfl
@[simp] theorem State.whileIdle_writeBacks : (s.whileIdle).writeBacks = s.writeBacks := rfl
@[simp] theorem State.whileIdle_patrol : (s.whileIdle).patrol = s.patrol := rfl
@[simp] theorem State.whileIdle_health : (s.whileIdle).health = s.health := rfl
@[simp] theorem State.whileIdle_slots : (s.whileIdle).slots = s.slots := rfl
@[simp] theorem State.whileIdle_migrations : (s.whileIdle).migrations = s.migrations := rfl
@[simp] theorem State.whileIdle_copy : (s.whileIdle).copy = s.copy := rfl
@[simp] theorem State.whileIdle_mode : (s.whileIdle).mode = s.mode := rfl
@[simp] theorem State.whileIdle_sweepLine : (s.whileIdle).sweepLine = s.sweepLine := rfl
@[simp] theorem State.whileIdle_sweepIndex : (s.whileIdle).sweepIndex = s.sweepIndex := rfl
@[simp] theorem State.whileIdle_reports : (s.whileIdle).reports = s.reports := rfl
@[simp] theorem State.whileIdle_sequence : (s.whileIdle).sequence = s.sequence := rfl
@[simp] theorem State.whileIdle_alert : (s.whileIdle).alert = s.alert := rfl
@[simp] theorem State.whileIdle_settings : (s.whileIdle).settings = s.settings := rfl
@[simp] theorem State.whileIdle_frame : (s.whileIdle).frame = s.frame := rfl
@[simp] theorem State.whileIdle_cells : (s.whileIdle).cells = s.cells := rfl
@[simp] theorem State.whileIdle_freeIndex : (s.whileIdle).freeIndex = s.freeIndex := rfl
@[simp] theorem State.whileIdle_pending : (s.whileIdle).pending = s.pending := rfl

/-! ### restPatrol -/

@[simp] theorem State.restPatrol_hstb : (s.restPatrol).hstb = s.hstb := rfl
@[simp] theorem State.restPatrol_strobeHeld : (s.restPatrol).strobeHeld = s.strobeHeld := rfl
@[simp] theorem State.restPatrol_hreset : (s.restPatrol).hreset = s.hreset := rfl
@[simp] theorem State.restPatrol_poreset : (s.restPatrol).poreset = s.poreset := rfl
@[simp] theorem State.restPatrol_mcs : (s.restPatrol).mcs = s.mcs := rfl
@[simp] theorem State.restPatrol_host : (s.restPatrol).host = s.host := rfl
@[simp] theorem State.restPatrol_port : (s.restPatrol).port = s.port := rfl
@[simp] theorem State.restPatrol_award : (s.restPatrol).award = s.award := rfl
@[simp] theorem State.restPatrol_decisionOpen : (s.restPatrol).decisionOpen = s.decisionOpen := rfl
@[simp] theorem State.restPatrol_starvation : (s.restPatrol).starvation = s.starvation := rfl
@[simp] theorem State.restPatrol_writeBacks : (s.restPatrol).writeBacks = s.writeBacks := rfl
@[simp] theorem State.restPatrol_patrol : (s.restPatrol).patrol = { s.patrol with debt := 0, timer := 0 } := rfl
@[simp] theorem State.restPatrol_health : (s.restPatrol).health = s.health := rfl
@[simp] theorem State.restPatrol_slots : (s.restPatrol).slots = s.slots := rfl
@[simp] theorem State.restPatrol_migrations : (s.restPatrol).migrations = s.migrations := rfl
@[simp] theorem State.restPatrol_copy : (s.restPatrol).copy = s.copy := rfl
@[simp] theorem State.restPatrol_mode : (s.restPatrol).mode = s.mode := rfl
@[simp] theorem State.restPatrol_sweepLine : (s.restPatrol).sweepLine = s.sweepLine := rfl
@[simp] theorem State.restPatrol_sweepIndex : (s.restPatrol).sweepIndex = s.sweepIndex := rfl
@[simp] theorem State.restPatrol_reports : (s.restPatrol).reports = s.reports := rfl
@[simp] theorem State.restPatrol_sequence : (s.restPatrol).sequence = s.sequence := rfl
@[simp] theorem State.restPatrol_alert : (s.restPatrol).alert = s.alert := rfl
@[simp] theorem State.restPatrol_settings : (s.restPatrol).settings = s.settings := rfl
@[simp] theorem State.restPatrol_frame : (s.restPatrol).frame = s.frame := rfl
@[simp] theorem State.restPatrol_cells : (s.restPatrol).cells = s.cells := rfl
@[simp] theorem State.restPatrol_freeIndex : (s.restPatrol).freeIndex = s.freeIndex := rfl
@[simp] theorem State.restPatrol_pending : (s.restPatrol).pending = s.pending := rfl

/-! ### enterNormal -/

@[simp] theorem State.enterNormal_hstb : (s.enterNormal).hstb = s.hstb := rfl
@[simp] theorem State.enterNormal_strobeHeld : (s.enterNormal).strobeHeld = s.strobeHeld := rfl
@[simp] theorem State.enterNormal_hreset : (s.enterNormal).hreset = s.hreset := rfl
@[simp] theorem State.enterNormal_poreset : (s.enterNormal).poreset = s.poreset := rfl
@[simp] theorem State.enterNormal_mcs : (s.enterNormal).mcs = s.mcs := rfl
@[simp] theorem State.enterNormal_host : (s.enterNormal).host = s.host := rfl
@[simp] theorem State.enterNormal_port : (s.enterNormal).port = s.port := rfl
@[simp] theorem State.enterNormal_award : (s.enterNormal).award = s.award := rfl
@[simp] theorem State.enterNormal_decisionOpen : (s.enterNormal).decisionOpen = s.decisionOpen := rfl
@[simp] theorem State.enterNormal_starvation : (s.enterNormal).starvation = s.starvation := rfl
@[simp] theorem State.enterNormal_writeBacks : (s.enterNormal).writeBacks = s.writeBacks := rfl
@[simp] theorem State.enterNormal_patrol : (s.enterNormal).patrol = { s.patrol with debt := 0, timer := 0 } := rfl
@[simp] theorem State.enterNormal_health : (s.enterNormal).health = s.health := rfl
@[simp] theorem State.enterNormal_slots : (s.enterNormal).slots = s.slots := rfl
@[simp] theorem State.enterNormal_migrations : (s.enterNormal).migrations = s.migrations := rfl
@[simp] theorem State.enterNormal_copy : (s.enterNormal).copy = s.copy := rfl
@[simp] theorem State.enterNormal_mode : (s.enterNormal).mode = .normal := rfl
@[simp] theorem State.enterNormal_sweepLine : (s.enterNormal).sweepLine = s.sweepLine := rfl
@[simp] theorem State.enterNormal_sweepIndex : (s.enterNormal).sweepIndex = s.sweepIndex := rfl
@[simp] theorem State.enterNormal_reports : (s.enterNormal).reports = s.reports := rfl
@[simp] theorem State.enterNormal_sequence : (s.enterNormal).sequence = s.sequence := rfl
@[simp] theorem State.enterNormal_alert : (s.enterNormal).alert = s.alert := rfl
@[simp] theorem State.enterNormal_settings : (s.enterNormal).settings = s.settings := rfl
@[simp] theorem State.enterNormal_frame : (s.enterNormal).frame = s.frame := rfl
@[simp] theorem State.enterNormal_cells : (s.enterNormal).cells = s.cells := rfl
@[simp] theorem State.enterNormal_freeIndex : (s.enterNormal).freeIndex = s.freeIndex := rfl
@[simp] theorem State.enterNormal_pending : (s.enterNormal).pending = s.pending := rfl

/-! ### evaluateAlert -/

@[simp] theorem State.evaluateAlert_hstb : (s.evaluateAlert).hstb = s.hstb := rfl
@[simp] theorem State.evaluateAlert_strobeHeld : (s.evaluateAlert).strobeHeld = s.strobeHeld := rfl
@[simp] theorem State.evaluateAlert_hreset : (s.evaluateAlert).hreset = s.hreset := rfl
@[simp] theorem State.evaluateAlert_poreset : (s.evaluateAlert).poreset = s.poreset := rfl
@[simp] theorem State.evaluateAlert_mcs : (s.evaluateAlert).mcs = s.mcs := rfl
@[simp] theorem State.evaluateAlert_host : (s.evaluateAlert).host = s.host := rfl
@[simp] theorem State.evaluateAlert_port : (s.evaluateAlert).port = s.port := rfl
@[simp] theorem State.evaluateAlert_award : (s.evaluateAlert).award = s.award := rfl
@[simp] theorem State.evaluateAlert_decisionOpen : (s.evaluateAlert).decisionOpen = s.decisionOpen := rfl
@[simp] theorem State.evaluateAlert_starvation : (s.evaluateAlert).starvation = s.starvation := rfl
@[simp] theorem State.evaluateAlert_writeBacks : (s.evaluateAlert).writeBacks = s.writeBacks := rfl
@[simp] theorem State.evaluateAlert_patrol : (s.evaluateAlert).patrol = s.patrol := rfl
@[simp] theorem State.evaluateAlert_health : (s.evaluateAlert).health = s.health := rfl
@[simp] theorem State.evaluateAlert_slots : (s.evaluateAlert).slots = s.slots := rfl
@[simp] theorem State.evaluateAlert_migrations : (s.evaluateAlert).migrations = s.migrations := rfl
@[simp] theorem State.evaluateAlert_copy : (s.evaluateAlert).copy = s.copy := rfl
@[simp] theorem State.evaluateAlert_mode : (s.evaluateAlert).mode = s.mode := rfl
@[simp] theorem State.evaluateAlert_sweepLine : (s.evaluateAlert).sweepLine = s.sweepLine := rfl
@[simp] theorem State.evaluateAlert_sweepIndex : (s.evaluateAlert).sweepIndex = s.sweepIndex := rfl
@[simp] theorem State.evaluateAlert_reports : (s.evaluateAlert).reports = s.reports := rfl
@[simp] theorem State.evaluateAlert_sequence : (s.evaluateAlert).sequence = s.sequence := rfl
@[simp] theorem State.evaluateAlert_alert :
    (s.evaluateAlert).alert = alertCondition s.settings.alertMask s.reports := rfl
@[simp] theorem State.evaluateAlert_settings : (s.evaluateAlert).settings = s.settings := rfl
@[simp] theorem State.evaluateAlert_frame : (s.evaluateAlert).frame = s.frame := rfl
@[simp] theorem State.evaluateAlert_cells : (s.evaluateAlert).cells = s.cells := rfl
@[simp] theorem State.evaluateAlert_freeIndex : (s.evaluateAlert).freeIndex = s.freeIndex := rfl
@[simp] theorem State.evaluateAlert_pending : (s.evaluateAlert).pending = s.pending := rfl

/-! ### supersede -/

@[simp] theorem State.supersede_hstb (word : Nat) : (s.supersede word).hstb = s.hstb := rfl
@[simp] theorem State.supersede_strobeHeld (word : Nat) : (s.supersede word).strobeHeld = s.strobeHeld := rfl
@[simp] theorem State.supersede_hreset (word : Nat) : (s.supersede word).hreset = s.hreset := rfl
@[simp] theorem State.supersede_poreset (word : Nat) : (s.supersede word).poreset = s.poreset := rfl
@[simp] theorem State.supersede_mcs (word : Nat) : (s.supersede word).mcs = s.mcs := rfl
@[simp] theorem State.supersede_host (word : Nat) : (s.supersede word).host = s.host := rfl
@[simp] theorem State.supersede_port (word : Nat) : (s.supersede word).port = s.port := rfl
@[simp] theorem State.supersede_award (word : Nat) : (s.supersede word).award = s.award := rfl
@[simp] theorem State.supersede_decisionOpen (word : Nat) : (s.supersede word).decisionOpen = s.decisionOpen := rfl
@[simp] theorem State.supersede_starvation (word : Nat) : (s.supersede word).starvation = s.starvation := rfl
@[simp] theorem State.supersede_writeBacks (word : Nat) :
    (s.supersede word).writeBacks = s.writeBacks.filter fun w => w.word != word := rfl
@[simp] theorem State.supersede_patrol (word : Nat) : (s.supersede word).patrol = s.patrol := rfl
@[simp] theorem State.supersede_health (word : Nat) : (s.supersede word).health = s.health := rfl
@[simp] theorem State.supersede_slots (word : Nat) : (s.supersede word).slots = s.slots := rfl
@[simp] theorem State.supersede_migrations (word : Nat) : (s.supersede word).migrations = s.migrations := rfl
@[simp] theorem State.supersede_copy (word : Nat) : (s.supersede word).copy = s.copy := rfl
@[simp] theorem State.supersede_mode (word : Nat) : (s.supersede word).mode = s.mode := rfl
@[simp] theorem State.supersede_sweepLine (word : Nat) : (s.supersede word).sweepLine = s.sweepLine := rfl
@[simp] theorem State.supersede_sweepIndex (word : Nat) : (s.supersede word).sweepIndex = s.sweepIndex := rfl
@[simp] theorem State.supersede_reports (word : Nat) : (s.supersede word).reports = s.reports := rfl
@[simp] theorem State.supersede_sequence (word : Nat) : (s.supersede word).sequence = s.sequence := rfl
@[simp] theorem State.supersede_alert (word : Nat) : (s.supersede word).alert = s.alert := rfl
@[simp] theorem State.supersede_settings (word : Nat) : (s.supersede word).settings = s.settings := rfl
@[simp] theorem State.supersede_frame (word : Nat) : (s.supersede word).frame = s.frame := rfl
@[simp] theorem State.supersede_cells (word : Nat) : (s.supersede word).cells = s.cells := rfl
@[simp] theorem State.supersede_freeIndex (word : Nat) : (s.supersede word).freeIndex = s.freeIndex := rfl
@[simp] theorem State.supersede_pending (word : Nat) : (s.supersede word).pending = s.pending := rfl

/-! ### pushReport -/

@[simp] theorem State.pushReport_hstb (r : Report) : (s.pushReport r).hstb = s.hstb := rfl
@[simp] theorem State.pushReport_strobeHeld (r : Report) : (s.pushReport r).strobeHeld = s.strobeHeld := rfl
@[simp] theorem State.pushReport_hreset (r : Report) : (s.pushReport r).hreset = s.hreset := rfl
@[simp] theorem State.pushReport_poreset (r : Report) : (s.pushReport r).poreset = s.poreset := rfl
@[simp] theorem State.pushReport_mcs (r : Report) : (s.pushReport r).mcs = s.mcs := rfl
@[simp] theorem State.pushReport_host (r : Report) : (s.pushReport r).host = s.host := rfl
@[simp] theorem State.pushReport_port (r : Report) : (s.pushReport r).port = s.port := rfl
@[simp] theorem State.pushReport_award (r : Report) : (s.pushReport r).award = s.award := rfl
@[simp] theorem State.pushReport_decisionOpen (r : Report) : (s.pushReport r).decisionOpen = s.decisionOpen := rfl
@[simp] theorem State.pushReport_starvation (r : Report) : (s.pushReport r).starvation = s.starvation := rfl
@[simp] theorem State.pushReport_writeBacks (r : Report) : (s.pushReport r).writeBacks = s.writeBacks := rfl
@[simp] theorem State.pushReport_patrol (r : Report) : (s.pushReport r).patrol = s.patrol := rfl
@[simp] theorem State.pushReport_health (r : Report) : (s.pushReport r).health = s.health := rfl
@[simp] theorem State.pushReport_slots (r : Report) : (s.pushReport r).slots = s.slots := rfl
@[simp] theorem State.pushReport_migrations (r : Report) : (s.pushReport r).migrations = s.migrations := rfl
@[simp] theorem State.pushReport_copy (r : Report) : (s.pushReport r).copy = s.copy := rfl
@[simp] theorem State.pushReport_mode (r : Report) : (s.pushReport r).mode = s.mode := rfl
@[simp] theorem State.pushReport_sweepLine (r : Report) : (s.pushReport r).sweepLine = s.sweepLine := rfl
@[simp] theorem State.pushReport_sweepIndex (r : Report) : (s.pushReport r).sweepIndex = s.sweepIndex := rfl
@[simp] theorem State.pushReport_reports (r : Report) :
    (s.pushReport r).reports = s.reports ++ [{ sequence := s.sequence, pass := s.patrol.pass, report := r }] := rfl
@[simp] theorem State.pushReport_sequence (r : Report) : (s.pushReport r).sequence = s.sequence + 1 := rfl
@[simp] theorem State.pushReport_alert (r : Report) :
    (s.pushReport r).alert = alertCondition s.settings.alertMask
      (s.reports ++ [{ sequence := s.sequence, pass := s.patrol.pass, report := r }]) := rfl
@[simp] theorem State.pushReport_settings (r : Report) : (s.pushReport r).settings = s.settings := rfl
@[simp] theorem State.pushReport_frame (r : Report) : (s.pushReport r).frame = s.frame := rfl
@[simp] theorem State.pushReport_cells (r : Report) : (s.pushReport r).cells = s.cells := rfl
@[simp] theorem State.pushReport_freeIndex (r : Report) : (s.pushReport r).freeIndex = s.freeIndex := rfl
@[simp] theorem State.pushReport_pending (r : Report) : (s.pushReport r).pending = s.pending := rfl

/-! ### released -/

@[simp] theorem State.released_hstb : (s.released).hstb = s.hstb := rfl
@[simp] theorem State.released_strobeHeld : (s.released).strobeHeld = s.strobeHeld := rfl
@[simp] theorem State.released_hreset : (s.released).hreset = s.hreset := rfl
@[simp] theorem State.released_poreset : (s.released).poreset = s.poreset := rfl
@[simp] theorem State.released_mcs : (s.released).mcs = s.mcs := rfl
@[simp] theorem State.released_host : (s.released).host = s.host := rfl
@[simp] theorem State.released_port : (s.released).port = MemoryPort.free := rfl
@[simp] theorem State.released_award : (s.released).award = s.decision := rfl
@[simp] theorem State.released_decisionOpen : (s.released).decisionOpen = s.decision.isSome := rfl
@[simp] theorem State.released_starvation : (s.released).starvation = s.starvation := rfl
@[simp] theorem State.released_writeBacks : (s.released).writeBacks = s.writeBacks := rfl
@[simp] theorem State.released_patrol : (s.released).patrol = s.patrol := rfl
@[simp] theorem State.released_health : (s.released).health = s.health := rfl
@[simp] theorem State.released_slots : (s.released).slots = s.slots := rfl
@[simp] theorem State.released_migrations : (s.released).migrations = s.migrations := rfl
@[simp] theorem State.released_copy : (s.released).copy = s.copy := rfl
@[simp] theorem State.released_mode : (s.released).mode = s.mode := rfl
@[simp] theorem State.released_sweepLine : (s.released).sweepLine = s.sweepLine := rfl
@[simp] theorem State.released_sweepIndex : (s.released).sweepIndex = s.sweepIndex := rfl
@[simp] theorem State.released_reports : (s.released).reports = s.reports := rfl
@[simp] theorem State.released_sequence : (s.released).sequence = s.sequence := rfl
@[simp] theorem State.released_alert : (s.released).alert = s.alert := rfl
@[simp] theorem State.released_settings : (s.released).settings = s.settings := rfl
@[simp] theorem State.released_frame : (s.released).frame = s.frame := rfl
@[simp] theorem State.released_cells : (s.released).cells = s.cells := rfl
@[simp] theorem State.released_freeIndex : (s.released).freeIndex = s.freeIndex := rfl
@[simp] theorem State.released_pending : (s.released).pending = s.pending := rfl

/-! ### decidedIfFree -/

@[simp] theorem State.decidedIfFree_hstb : (s.decidedIfFree).hstb = s.hstb := rfl
@[simp] theorem State.decidedIfFree_strobeHeld : (s.decidedIfFree).strobeHeld = s.strobeHeld := rfl
@[simp] theorem State.decidedIfFree_hreset : (s.decidedIfFree).hreset = s.hreset := rfl
@[simp] theorem State.decidedIfFree_poreset : (s.decidedIfFree).poreset = s.poreset := rfl
@[simp] theorem State.decidedIfFree_mcs : (s.decidedIfFree).mcs = s.mcs := rfl
@[simp] theorem State.decidedIfFree_host : (s.decidedIfFree).host = s.host := rfl
@[simp] theorem State.decidedIfFree_port : (s.decidedIfFree).port = s.port := rfl
@[simp] theorem State.decidedIfFree_award :
    (s.decidedIfFree).award = if s.port.holder = .free then s.decision else s.award := rfl
@[simp] theorem State.decidedIfFree_decisionOpen : (s.decidedIfFree).decisionOpen = s.decisionOpen := rfl
@[simp] theorem State.decidedIfFree_starvation : (s.decidedIfFree).starvation = s.starvation := rfl
@[simp] theorem State.decidedIfFree_writeBacks : (s.decidedIfFree).writeBacks = s.writeBacks := rfl
@[simp] theorem State.decidedIfFree_patrol : (s.decidedIfFree).patrol = s.patrol := rfl
@[simp] theorem State.decidedIfFree_health : (s.decidedIfFree).health = s.health := rfl
@[simp] theorem State.decidedIfFree_slots : (s.decidedIfFree).slots = s.slots := rfl
@[simp] theorem State.decidedIfFree_migrations : (s.decidedIfFree).migrations = s.migrations := rfl
@[simp] theorem State.decidedIfFree_copy : (s.decidedIfFree).copy = s.copy := rfl
@[simp] theorem State.decidedIfFree_mode : (s.decidedIfFree).mode = s.mode := rfl
@[simp] theorem State.decidedIfFree_sweepLine : (s.decidedIfFree).sweepLine = s.sweepLine := rfl
@[simp] theorem State.decidedIfFree_sweepIndex : (s.decidedIfFree).sweepIndex = s.sweepIndex := rfl
@[simp] theorem State.decidedIfFree_reports : (s.decidedIfFree).reports = s.reports := rfl
@[simp] theorem State.decidedIfFree_sequence : (s.decidedIfFree).sequence = s.sequence := rfl
@[simp] theorem State.decidedIfFree_alert : (s.decidedIfFree).alert = s.alert := rfl
@[simp] theorem State.decidedIfFree_settings : (s.decidedIfFree).settings = s.settings := rfl
@[simp] theorem State.decidedIfFree_frame : (s.decidedIfFree).frame = s.frame := rfl
@[simp] theorem State.decidedIfFree_cells : (s.decidedIfFree).cells = s.cells := rfl
@[simp] theorem State.decidedIfFree_freeIndex : (s.decidedIfFree).freeIndex = s.freeIndex := rfl
@[simp] theorem State.decidedIfFree_pending : (s.decidedIfFree).pending = s.pending := rfl

end Sys2Proof.Machine
end

