-- ==== Sys2Proof/Laws/Frames.lean ====
section
/-! SUPPORT. Frames: for each shared operation with cases, one lemma that says which fields it can change at all (the
others are as before), and for the operations met most the same field by field for `simp`. -/

namespace Sys2Proof.Machine

variable (s : State)

theorem State.append_changes (r : Report) :
    s.append r = { s with
      reports := (s.append r).reports
      sequence := (s.append r).sequence
      alert := (s.append r).alert } := by
  unfold State.append
  split
  · rfl
  · split
    · rfl
    · split <;> rfl

@[simp] theorem State.append_hstb (r : Report) : (s.append r).hstb = s.hstb := by
  rw [State.append_changes]
@[simp] theorem State.append_strobeHeld (r : Report) : (s.append r).strobeHeld = s.strobeHeld := by
  rw [State.append_changes]
@[simp] theorem State.append_hreset (r : Report) : (s.append r).hreset = s.hreset := by
  rw [State.append_changes]
@[simp] theorem State.append_poreset (r : Report) : (s.append r).poreset = s.poreset := by
  rw [State.append_changes]
@[simp] theorem State.append_mcs (r : Report) : (s.append r).mcs = s.mcs := by
  rw [State.append_changes]
@[simp] theorem State.append_host (r : Report) : (s.append r).host = s.host := by
  rw [State.append_changes]
@[simp] theorem State.append_port (r : Report) : (s.append r).port = s.port := by
  rw [State.append_changes]
@[simp] theorem State.append_award (r : Report) : (s.append r).award = s.award := by
  rw [State.append_changes]
@[simp] theorem State.append_decisionOpen (r : Report) : (s.append r).decisionOpen = s.decisionOpen := by
  rw [State.append_changes]
@[simp] theorem State.append_starvation (r : Report) : (s.append r).starvation = s.starvation := by
  rw [State.append_changes]
@[simp] theorem State.append_writeBacks (r : Report) : (s.append r).writeBacks = s.writeBacks := by
  rw [State.append_changes]
@[simp] theorem State.append_patrol (r : Report) : (s.append r).patrol = s.patrol := by
  rw [State.append_changes]
@[simp] theorem State.append_health (r : Report) : (s.append r).health = s.health := by
  rw [State.append_changes]
@[simp] theorem State.append_slots (r : Report) : (s.append r).slots = s.slots := by
  rw [State.append_changes]
@[simp] theorem State.append_migrations (r : Report) : (s.append r).migrations = s.migrations := by
  rw [State.append_changes]
@[simp] theorem State.append_copy (r : Report) : (s.append r).copy = s.copy := by
  rw [State.append_changes]
@[simp] theorem State.append_mode (r : Report) : (s.append r).mode = s.mode := by
  rw [State.append_changes]
@[simp] theorem State.append_sweepLine (r : Report) : (s.append r).sweepLine = s.sweepLine := by
  rw [State.append_changes]
@[simp] theorem State.append_sweepIndex (r : Report) : (s.append r).sweepIndex = s.sweepIndex := by
  rw [State.append_changes]
@[simp] theorem State.append_settings (r : Report) : (s.append r).settings = s.settings := by
  rw [State.append_changes]
@[simp] theorem State.append_frame (r : Report) : (s.append r).frame = s.frame := by
  rw [State.append_changes]
@[simp] theorem State.append_cells (r : Report) : (s.append r).cells = s.cells := by
  rw [State.append_changes]
@[simp] theorem State.append_freeIndex (r : Report) : (s.append r).freeIndex = s.freeIndex := by
  rw [State.append_changes]
@[simp] theorem State.append_pending (r : Report) : (s.append r).pending = s.pending := by
  rw [State.append_changes]

theorem State.appendAll_changes (rs : List Report) :
    s.appendAll rs = { s with
      reports := (s.appendAll rs).reports
      sequence := (s.appendAll rs).sequence
      alert := (s.appendAll rs).alert } := by
  induction rs generalizing s with
  | nil => rfl
  | cons r rest ih =>
    have h := ih (s.append r)
    simp only [State.appendAll, List.foldl_cons] at h ⊢
    rw [h, State.append_changes]

@[simp] theorem State.appendAll_hstb (rs : List Report) : (s.appendAll rs).hstb = s.hstb := by
  rw [State.appendAll_changes]
@[simp] theorem State.appendAll_strobeHeld (rs : List Report) : (s.appendAll rs).strobeHeld = s.strobeHeld := by
  rw [State.appendAll_changes]
@[simp] theorem State.appendAll_hreset (rs : List Report) : (s.appendAll rs).hreset = s.hreset := by
  rw [State.appendAll_changes]
@[simp] theorem State.appendAll_poreset (rs : List Report) : (s.appendAll rs).poreset = s.poreset := by
  rw [State.appendAll_changes]
@[simp] theorem State.appendAll_mcs (rs : List Report) : (s.appendAll rs).mcs = s.mcs := by
  rw [State.appendAll_changes]
@[simp] theorem State.appendAll_host (rs : List Report) : (s.appendAll rs).host = s.host := by
  rw [State.appendAll_changes]
@[simp] theorem State.appendAll_port (rs : List Report) : (s.appendAll rs).port = s.port := by
  rw [State.appendAll_changes]
@[simp] theorem State.appendAll_award (rs : List Report) : (s.appendAll rs).award = s.award := by
  rw [State.appendAll_changes]
@[simp] theorem State.appendAll_decisionOpen (rs : List Report) : (s.appendAll rs).decisionOpen = s.decisionOpen := by
  rw [State.appendAll_changes]
@[simp] theorem State.appendAll_starvation (rs : List Report) : (s.appendAll rs).starvation = s.starvation := by
  rw [State.appendAll_changes]
@[simp] theorem State.appendAll_writeBacks (rs : List Report) : (s.appendAll rs).writeBacks = s.writeBacks := by
  rw [State.appendAll_changes]
@[simp] theorem State.appendAll_patrol (rs : List Report) : (s.appendAll rs).patrol = s.patrol := by
  rw [State.appendAll_changes]
@[simp] theorem State.appendAll_health (rs : List Report) : (s.appendAll rs).health = s.health := by
  rw [State.appendAll_changes]
@[simp] theorem State.appendAll_slots (rs : List Report) : (s.appendAll rs).slots = s.slots := by
  rw [State.appendAll_changes]
@[simp] theorem State.appendAll_migrations (rs : List Report) : (s.appendAll rs).migrations = s.migrations := by
  rw [State.appendAll_changes]
@[simp] theorem State.appendAll_copy (rs : List Report) : (s.appendAll rs).copy = s.copy := by
  rw [State.appendAll_changes]
@[simp] theorem State.appendAll_mode (rs : List Report) : (s.appendAll rs).mode = s.mode := by
  rw [State.appendAll_changes]
@[simp] theorem State.appendAll_sweepLine (rs : List Report) : (s.appendAll rs).sweepLine = s.sweepLine := by
  rw [State.appendAll_changes]
@[simp] theorem State.appendAll_sweepIndex (rs : List Report) : (s.appendAll rs).sweepIndex = s.sweepIndex := by
  rw [State.appendAll_changes]
@[simp] theorem State.appendAll_settings (rs : List Report) : (s.appendAll rs).settings = s.settings := by
  rw [State.appendAll_changes]
@[simp] theorem State.appendAll_frame (rs : List Report) : (s.appendAll rs).frame = s.frame := by
  rw [State.appendAll_changes]
@[simp] theorem State.appendAll_cells (rs : List Report) : (s.appendAll rs).cells = s.cells := by
  rw [State.appendAll_changes]
@[simp] theorem State.appendAll_freeIndex (rs : List Report) : (s.appendAll rs).freeIndex = s.freeIndex := by
  rw [State.appendAll_changes]
@[simp] theorem State.appendAll_pending (rs : List Report) : (s.appendAll rs).pending = s.pending := by
  rw [State.appendAll_changes]

theorem State.appendForRead_changes (own : Report) (table : List Report) :
    s.appendForRead own table = { s with
      reports := (s.appendForRead own table).reports
      sequence := (s.appendForRead own table).sequence
      alert := (s.appendForRead own table).alert
      freeIndex := (s.appendForRead own table).freeIndex } := by
  unfold State.appendForRead
  split
  · rw [State.append_changes]
  · dsimp only
    split
    · rw [State.append_changes, State.appendAll_changes]
    · rw [State.appendAll_changes, State.append_changes]

@[simp] theorem State.appendForRead_hstb (own : Report) (table : List Report) :
    (s.appendForRead own table).hstb = s.hstb := by
  rw [State.appendForRead_changes]
@[simp] theorem State.appendForRead_strobeHeld (own : Report) (table : List Report) :
    (s.appendForRead own table).strobeHeld = s.strobeHeld := by
  rw [State.appendForRead_changes]
@[simp] theorem State.appendForRead_hreset (own : Report) (table : List Report) :
    (s.appendForRead own table).hreset = s.hreset := by
  rw [State.appendForRead_changes]
@[simp] theorem State.appendForRead_poreset (own : Report) (table : List Report) :
    (s.appendForRead own table).poreset = s.poreset := by
  rw [State.appendForRead_changes]
@[simp] theorem State.appendForRead_mcs (own : Report) (table : List Report) :
    (s.appendForRead own table).mcs = s.mcs := by
  rw [State.appendForRead_changes]
@[simp] theorem State.appendForRead_host (own : Report) (table : List Report) :
    (s.appendForRead own table).host = s.host := by
  rw [State.appendForRead_changes]
@[simp] theorem State.appendForRead_port (own : Report) (table : List Report) :
    (s.appendForRead own table).port = s.port := by
  rw [State.appendForRead_changes]
@[simp] theorem State.appendForRead_award (own : Report) (table : List Report) :
    (s.appendForRead own table).award = s.award := by
  rw [State.appendForRead_changes]
@[simp] theorem State.appendForRead_decisionOpen (own : Report) (table : List Report) :
    (s.appendForRead own table).decisionOpen = s.decisionOpen := by
  rw [State.appendForRead_changes]
@[simp] theorem State.appendForRead_starvation (own : Report) (table : List Report) :
    (s.appendForRead own table).starvation = s.starvation := by
  rw [State.appendForRead_changes]
@[simp] theorem State.appendForRead_writeBacks (own : Report) (table : List Report) :
    (s.appendForRead own table).writeBacks = s.writeBacks := by
  rw [State.appendForRead_changes]
@[simp] theorem State.appendForRead_patrol (own : Report) (table : List Report) :
    (s.appendForRead own table).patrol = s.patrol := by
  rw [State.appendForRead_changes]
@[simp] theorem State.appendForRead_health (own : Report) (table : List Report) :
    (s.appendForRead own table).health = s.health := by
  rw [State.appendForRead_changes]
@[simp] theorem State.appendForRead_slots (own : Report) (table : List Report) :
    (s.appendForRead own table).slots = s.slots := by
  rw [State.appendForRead_changes]
@[simp] theorem State.appendForRead_migrations (own : Report) (table : List Report) :
    (s.appendForRead own table).migrations = s.migrations := by
  rw [State.appendForRead_changes]
@[simp] theorem State.appendForRead_copy (own : Report) (table : List Report) :
    (s.appendForRead own table).copy = s.copy := by
  rw [State.appendForRead_changes]
@[simp] theorem State.appendForRead_mode (own : Report) (table : List Report) :
    (s.appendForRead own table).mode = s.mode := by
  rw [State.appendForRead_changes]
@[simp] theorem State.appendForRead_sweepLine (own : Report) (table : List Report) :
    (s.appendForRead own table).sweepLine = s.sweepLine := by
  rw [State.appendForRead_changes]
@[simp] theorem State.appendForRead_sweepIndex (own : Report) (table : List Report) :
    (s.appendForRead own table).sweepIndex = s.sweepIndex := by
  rw [State.appendForRead_changes]
@[simp] theorem State.appendForRead_settings (own : Report) (table : List Report) :
    (s.appendForRead own table).settings = s.settings := by
  rw [State.appendForRead_changes]
@[simp] theorem State.appendForRead_frame (own : Report) (table : List Report) :
    (s.appendForRead own table).frame = s.frame := by
  rw [State.appendForRead_changes]
@[simp] theorem State.appendForRead_cells (own : Report) (table : List Report) :
    (s.appendForRead own table).cells = s.cells := by
  rw [State.appendForRead_changes]
@[simp] theorem State.appendForRead_pending (own : Report) (table : List Report) :
    (s.appendForRead own table).pending = s.pending := by
  rw [State.appendForRead_changes]

theorem State.readCells_changes (a : Nat) (w : StoredWord) :
    (s.readCells a w).2 = { s with
      cells := ((s.readCells a w).2).cells
      freeIndex := ((s.readCells a w).2).freeIndex } := by
  unfold State.readCells
  split <;> rfl

@[simp] theorem State.readCells_hstb (a : Nat) (w : StoredWord) : ((s.readCells a w).2).hstb = s.hstb := by
  rw [State.readCells_changes]
@[simp] theorem State.readCells_strobeHeld (a : Nat) (w : StoredWord) :
    ((s.readCells a w).2).strobeHeld = s.strobeHeld := by
  rw [State.readCells_changes]
@[simp] theorem State.readCells_hreset (a : Nat) (w : StoredWord) : ((s.readCells a w).2).hreset = s.hreset := by
  rw [State.readCells_changes]
@[simp] theorem State.readCells_poreset (a : Nat) (w : StoredWord) : ((s.readCells a w).2).poreset = s.poreset := by
  rw [State.readCells_changes]
@[simp] theorem State.readCells_mcs (a : Nat) (w : StoredWord) : ((s.readCells a w).2).mcs = s.mcs := by
  rw [State.readCells_changes]
@[simp] theorem State.readCells_host (a : Nat) (w : StoredWord) : ((s.readCells a w).2).host = s.host := by
  rw [State.readCells_changes]
@[simp] theorem State.readCells_port (a : Nat) (w : StoredWord) : ((s.readCells a w).2).port = s.port := by
  rw [State.readCells_changes]
@[simp] theorem State.readCells_award (a : Nat) (w : StoredWord) : ((s.readCells a w).2).award = s.award := by
  rw [State.readCells_changes]
@[simp] theorem State.readCells_decisionOpen (a : Nat) (w : StoredWord) :
    ((s.readCells a w).2).decisionOpen = s.decisionOpen := by
  rw [State.readCells_changes]
@[simp] theorem State.readCells_starvation (a : Nat) (w : StoredWord) :
    ((s.readCells a w).2).starvation = s.starvation := by
  rw [State.readCells_changes]
@[simp] theorem State.readCells_writeBacks (a : Nat) (w : StoredWord) :
    ((s.readCells a w).2).writeBacks = s.writeBacks := by
  rw [State.readCells_changes]
@[simp] theorem State.readCells_patrol (a : Nat) (w : StoredWord) : ((s.readCells a w).2).patrol = s.patrol := by
  rw [State.readCells_changes]
@[simp] theorem State.readCells_health (a : Nat) (w : StoredWord) : ((s.readCells a w).2).health = s.health := by
  rw [State.readCells_changes]
@[simp] theorem State.readCells_slots (a : Nat) (w : StoredWord) : ((s.readCells a w).2).slots = s.slots := by
  rw [State.readCells_changes]
@[simp] theorem State.readCells_migrations (a : Nat) (w : StoredWord) :
    ((s.readCells a w).2).migrations = s.migrations := by
  rw [State.readCells_changes]
@[simp] theorem State.readCells_copy (a : Nat) (w : StoredWord) : ((s.readCells a w).2).copy = s.copy := by
  rw [State.readCells_changes]
@[simp] theorem State.readCells_mode (a : Nat) (w : StoredWord) : ((s.readCells a w).2).mode = s.mode := by
  rw [State.readCells_changes]
@[simp] theorem State.readCells_sweepLine (a : Nat) (w : StoredWord) :
    ((s.readCells a w).2).sweepLine = s.sweepLine := by
  rw [State.readCells_changes]
@[simp] theorem State.readCells_sweepIndex (a : Nat) (w : StoredWord) :
    ((s.readCells a w).2).sweepIndex = s.sweepIndex := by
  rw [State.readCells_changes]
@[simp] theorem State.readCells_reports (a : Nat) (w : StoredWord) : ((s.readCells a w).2).reports = s.reports := by
  rw [State.readCells_changes]
@[simp] theorem State.readCells_sequence (a : Nat) (w : StoredWord) :
    ((s.readCells a w).2).sequence = s.sequence := by
  rw [State.readCells_changes]
@[simp] theorem State.readCells_alert (a : Nat) (w : StoredWord) : ((s.readCells a w).2).alert = s.alert := by
  rw [State.readCells_changes]
@[simp] theorem State.readCells_settings (a : Nat) (w : StoredWord) :
    ((s.readCells a w).2).settings = s.settings := by
  rw [State.readCells_changes]
@[simp] theorem State.readCells_frame (a : Nat) (w : StoredWord) : ((s.readCells a w).2).frame = s.frame := by
  rw [State.readCells_changes]
@[simp] theorem State.readCells_pending (a : Nat) (w : StoredWord) : ((s.readCells a w).2).pending = s.pending := by
  rw [State.readCells_changes]

theorem State.recordHealth_changes (ev : HealthEvent) :
    (s.recordHealth ev).1 = { s with
      health := ((s.recordHealth ev).1).health } := by
  unfold State.recordHealth
  split
  · rfl
  · split <;> rfl

theorem State.intake_changes (home : Nat) (reason : Reason) :
    s.intake home reason = { s with
      migrations := (s.intake home reason).migrations } := by
  unfold State.intake
  split <;> rfl

theorem State.deferRequest_changes (line home : Nat) :
    (s.deferRequest line home).1 = { s with
      health := ((s.deferRequest line home).1).health } := by
  unfold State.deferRequest
  split
  · split <;> rfl
  · rfl

theorem State.requestMigration_changes (line home : Nat) (reason : Reason) :
    (s.requestMigration line home reason).1 = { s with
      health := ((s.requestMigration line home reason).1).health
      migrations := ((s.requestMigration line home reason).1).migrations } := by
  unfold State.requestMigration
  split
  · unfold State.updateHealth; rw [State.intake_changes]
  · rfl
  · rw [State.deferRequest_changes]

theorem State.requestTest_changes (ev : HealthEvent) :
    (s.requestTest ev).1 = { s with
      health := ((s.requestTest ev).1).health
      migrations := ((s.requestTest ev).1).migrations } := by
  unfold State.requestTest
  split
  · split
    · rw [State.requestMigration_changes]
    · rfl
  · rfl

theorem State.healthEvent_changes (ev : HealthEvent) :
    (s.healthEvent ev).1 = { s with
      health := ((s.healthEvent ev).1).health
      migrations := ((s.healthEvent ev).1).migrations } := by
  unfold State.healthEvent
  dsimp only
  rw [State.requestTest_changes, State.recordHealth_changes]

@[simp] theorem State.healthEvent_hstb (ev : HealthEvent) : ((s.healthEvent ev).1).hstb = s.hstb := by
  rw [State.healthEvent_changes]
@[simp] theorem State.healthEvent_strobeHeld (ev : HealthEvent) :
    ((s.healthEvent ev).1).strobeHeld = s.strobeHeld := by
  rw [State.healthEvent_changes]
@[simp] theorem State.healthEvent_hreset (ev : HealthEvent) : ((s.healthEvent ev).1).hreset = s.hreset := by
  rw [State.healthEvent_changes]
@[simp] theorem State.healthEvent_poreset (ev : HealthEvent) : ((s.healthEvent ev).1).poreset = s.poreset := by
  rw [State.healthEvent_changes]
@[simp] theorem State.healthEvent_mcs (ev : HealthEvent) : ((s.healthEvent ev).1).mcs = s.mcs := by
  rw [State.healthEvent_changes]
@[simp] theorem State.healthEvent_host (ev : HealthEvent) : ((s.healthEvent ev).1).host = s.host := by
  rw [State.healthEvent_changes]
@[simp] theorem State.healthEvent_port (ev : HealthEvent) : ((s.healthEvent ev).1).port = s.port := by
  rw [State.healthEvent_changes]
@[simp] theorem State.healthEvent_award (ev : HealthEvent) : ((s.healthEvent ev).1).award = s.award := by
  rw [State.healthEvent_changes]
@[simp] theorem State.healthEvent_decisionOpen (ev : HealthEvent) :
    ((s.healthEvent ev).1).decisionOpen = s.decisionOpen := by
  rw [State.healthEvent_changes]
@[simp] theorem State.healthEvent_starvation (ev : HealthEvent) :
    ((s.healthEvent ev).1).starvation = s.starvation := by
  rw [State.healthEvent_changes]
@[simp] theorem State.healthEvent_writeBacks (ev : HealthEvent) :
    ((s.healthEvent ev).1).writeBacks = s.writeBacks := by
  rw [State.healthEvent_changes]
@[simp] theorem State.healthEvent_patrol (ev : HealthEvent) : ((s.healthEvent ev).1).patrol = s.patrol := by
  rw [State.healthEvent_changes]
@[simp] theorem State.healthEvent_slots (ev : HealthEvent) : ((s.healthEvent ev).1).slots = s.slots := by
  rw [State.healthEvent_changes]
@[simp] theorem State.healthEvent_copy (ev : HealthEvent) : ((s.healthEvent ev).1).copy = s.copy := by
  rw [State.healthEvent_changes]
@[simp] theorem State.healthEvent_mode (ev : HealthEvent) : ((s.healthEvent ev).1).mode = s.mode := by
  rw [State.healthEvent_changes]
@[simp] theorem State.healthEvent_sweepLine (ev : HealthEvent) : ((s.healthEvent ev).1).sweepLine = s.sweepLine := by
  rw [State.healthEvent_changes]
@[simp] theorem State.healthEvent_sweepIndex (ev : HealthEvent) :
    ((s.healthEvent ev).1).sweepIndex = s.sweepIndex := by
  rw [State.healthEvent_changes]
@[simp] theorem State.healthEvent_reports (ev : HealthEvent) : ((s.healthEvent ev).1).reports = s.reports := by
  rw [State.healthEvent_changes]
@[simp] theorem State.healthEvent_sequence (ev : HealthEvent) : ((s.healthEvent ev).1).sequence = s.sequence := by
  rw [State.healthEvent_changes]
@[simp] theorem State.healthEvent_alert (ev : HealthEvent) : ((s.healthEvent ev).1).alert = s.alert := by
  rw [State.healthEvent_changes]
@[simp] theorem State.healthEvent_settings (ev : HealthEvent) : ((s.healthEvent ev).1).settings = s.settings := by
  rw [State.healthEvent_changes]
@[simp] theorem State.healthEvent_frame (ev : HealthEvent) : ((s.healthEvent ev).1).frame = s.frame := by
  rw [State.healthEvent_changes]
@[simp] theorem State.healthEvent_cells (ev : HealthEvent) : ((s.healthEvent ev).1).cells = s.cells := by
  rw [State.healthEvent_changes]
@[simp] theorem State.healthEvent_freeIndex (ev : HealthEvent) : ((s.healthEvent ev).1).freeIndex = s.freeIndex := by
  rw [State.healthEvent_changes]
@[simp] theorem State.healthEvent_pending (ev : HealthEvent) : ((s.healthEvent ev).1).pending = s.pending := by
  rw [State.healthEvent_changes]

theorem State.correctedRead_changes (word : Nat) (cls : ErrorClass) (source : EventSource) :
    s.correctedRead word cls source = { s with
      health := (s.correctedRead word cls source).health
      migrations := (s.correctedRead word cls source).migrations
      reports := (s.correctedRead word cls source).reports
      sequence := (s.correctedRead word cls source).sequence
      alert := (s.correctedRead word cls source).alert } := by
  unfold State.correctedRead
  dsimp only
  rw [State.appendAll_changes, State.healthEvent_changes]

@[simp] theorem State.correctedRead_hstb (word : Nat) (cls : ErrorClass) (source : EventSource) :
    (s.correctedRead word cls source).hstb = s.hstb := by
  rw [State.correctedRead_changes]
@[simp] theorem State.correctedRead_strobeHeld (word : Nat) (cls : ErrorClass) (source : EventSource) :
    (s.correctedRead word cls source).strobeHeld = s.strobeHeld := by
  rw [State.correctedRead_changes]
@[simp] theorem State.correctedRead_hreset (word : Nat) (cls : ErrorClass) (source : EventSource) :
    (s.correctedRead word cls source).hreset = s.hreset := by
  rw [State.correctedRead_changes]
@[simp] theorem State.correctedRead_poreset (word : Nat) (cls : ErrorClass) (source : EventSource) :
    (s.correctedRead word cls source).poreset = s.poreset := by
  rw [State.correctedRead_changes]
@[simp] theorem State.correctedRead_mcs (word : Nat) (cls : ErrorClass) (source : EventSource) :
    (s.correctedRead word cls source).mcs = s.mcs := by
  rw [State.correctedRead_changes]
@[simp] theorem State.correctedRead_host (word : Nat) (cls : ErrorClass) (source : EventSource) :
    (s.correctedRead word cls source).host = s.host := by
  rw [State.correctedRead_changes]
@[simp] theorem State.correctedRead_port (word : Nat) (cls : ErrorClass) (source : EventSource) :
    (s.correctedRead word cls source).port = s.port := by
  rw [State.correctedRead_changes]
@[simp] theorem State.correctedRead_award (word : Nat) (cls : ErrorClass) (source : EventSource) :
    (s.correctedRead word cls source).award = s.award := by
  rw [State.correctedRead_changes]
@[simp] theorem State.correctedRead_decisionOpen (word : Nat) (cls : ErrorClass) (source : EventSource) :
    (s.correctedRead word cls source).decisionOpen = s.decisionOpen := by
  rw [State.correctedRead_changes]
@[simp] theorem State.correctedRead_starvation (word : Nat) (cls : ErrorClass) (source : EventSource) :
    (s.correctedRead word cls source).starvation = s.starvation := by
  rw [State.correctedRead_changes]
@[simp] theorem State.correctedRead_writeBacks (word : Nat) (cls : ErrorClass) (source : EventSource) :
    (s.correctedRead word cls source).writeBacks = s.writeBacks := by
  rw [State.correctedRead_changes]
@[simp] theorem State.correctedRead_patrol (word : Nat) (cls : ErrorClass) (source : EventSource) :
    (s.correctedRead word cls source).patrol = s.patrol := by
  rw [State.correctedRead_changes]
@[simp] theorem State.correctedRead_slots (word : Nat) (cls : ErrorClass) (source : EventSource) :
    (s.correctedRead word cls source).slots = s.slots := by
  rw [State.correctedRead_changes]
@[simp] theorem State.correctedRead_copy (word : Nat) (cls : ErrorClass) (source : EventSource) :
    (s.correctedRead word cls source).copy = s.copy := by
  rw [State.correctedRead_changes]
@[simp] theorem State.correctedRead_mode (word : Nat) (cls : ErrorClass) (source : EventSource) :
    (s.correctedRead word cls source).mode = s.mode := by
  rw [State.correctedRead_changes]
@[simp] theorem State.correctedRead_sweepLine (word : Nat) (cls : ErrorClass) (source : EventSource) :
    (s.correctedRead word cls source).sweepLine = s.sweepLine := by
  rw [State.correctedRead_changes]
@[simp] theorem State.correctedRead_sweepIndex (word : Nat) (cls : ErrorClass) (source : EventSource) :
    (s.correctedRead word cls source).sweepIndex = s.sweepIndex := by
  rw [State.correctedRead_changes]
@[simp] theorem State.correctedRead_settings (word : Nat) (cls : ErrorClass) (source : EventSource) :
    (s.correctedRead word cls source).settings = s.settings := by
  rw [State.correctedRead_changes]
@[simp] theorem State.correctedRead_frame (word : Nat) (cls : ErrorClass) (source : EventSource) :
    (s.correctedRead word cls source).frame = s.frame := by
  rw [State.correctedRead_changes]
@[simp] theorem State.correctedRead_cells (word : Nat) (cls : ErrorClass) (source : EventSource) :
    (s.correctedRead word cls source).cells = s.cells := by
  rw [State.correctedRead_changes]
@[simp] theorem State.correctedRead_freeIndex (word : Nat) (cls : ErrorClass) (source : EventSource) :
    (s.correctedRead word cls source).freeIndex = s.freeIndex := by
  rw [State.correctedRead_changes]
@[simp] theorem State.correctedRead_pending (word : Nat) (cls : ErrorClass) (source : EventSource) :
    (s.correctedRead word cls source).pending = s.pending := by
  rw [State.correctedRead_changes]

theorem State.uncorrectableRead_changes (own : Report) (word : Nat) (cls : ErrorClass) (source : EventSource) :
    s.uncorrectableRead own word cls source = { s with
      health := (s.uncorrectableRead own word cls source).health
      migrations := (s.uncorrectableRead own word cls source).migrations
      freeIndex := (s.uncorrectableRead own word cls source).freeIndex
      reports := (s.uncorrectableRead own word cls source).reports
      sequence := (s.uncorrectableRead own word cls source).sequence
      alert := (s.uncorrectableRead own word cls source).alert } := by
  unfold State.uncorrectableRead
  dsimp only
  rw [State.appendForRead_changes, State.healthEvent_changes]

@[simp] theorem State.uncorrectableRead_hstb (own : Report) (word : Nat) (cls : ErrorClass) (source : EventSource) :
    (s.uncorrectableRead own word cls source).hstb = s.hstb := by
  rw [State.uncorrectableRead_changes]
@[simp] theorem State.uncorrectableRead_strobeHeld (own : Report) (word : Nat) (cls : ErrorClass) (source : EventSource) :
    (s.uncorrectableRead own word cls source).strobeHeld = s.strobeHeld := by
  rw [State.uncorrectableRead_changes]
@[simp] theorem State.uncorrectableRead_hreset (own : Report) (word : Nat) (cls : ErrorClass) (source : EventSource) :
    (s.uncorrectableRead own word cls source).hreset = s.hreset := by
  rw [State.uncorrectableRead_changes]
@[simp] theorem State.uncorrectableRead_poreset (own : Report) (word : Nat) (cls : ErrorClass) (source : EventSource) :
    (s.uncorrectableRead own word cls source).poreset = s.poreset := by
  rw [State.uncorrectableRead_changes]
@[simp] theorem State.uncorrectableRead_mcs (own : Report) (word : Nat) (cls : ErrorClass) (source : EventSource) :
    (s.uncorrectableRead own word cls source).mcs = s.mcs := by
  rw [State.uncorrectableRead_changes]
@[simp] theorem State.uncorrectableRead_host (own : Report) (word : Nat) (cls : ErrorClass) (source : EventSource) :
    (s.uncorrectableRead own word cls source).host = s.host := by
  rw [State.uncorrectableRead_changes]
@[simp] theorem State.uncorrectableRead_port (own : Report) (word : Nat) (cls : ErrorClass) (source : EventSource) :
    (s.uncorrectableRead own word cls source).port = s.port := by
  rw [State.uncorrectableRead_changes]
@[simp] theorem State.uncorrectableRead_award (own : Report) (word : Nat) (cls : ErrorClass) (source : EventSource) :
    (s.uncorrectableRead own word cls source).award = s.award := by
  rw [State.uncorrectableRead_changes]
@[simp] theorem State.uncorrectableRead_decisionOpen (own : Report) (word : Nat) (cls : ErrorClass) (source : EventSource) :
    (s.uncorrectableRead own word cls source).decisionOpen = s.decisionOpen := by
  rw [State.uncorrectableRead_changes]
@[simp] theorem State.uncorrectableRead_starvation (own : Report) (word : Nat) (cls : ErrorClass) (source : EventSource) :
    (s.uncorrectableRead own word cls source).starvation = s.starvation := by
  rw [State.uncorrectableRead_changes]
@[simp] theorem State.uncorrectableRead_writeBacks (own : Report) (word : Nat) (cls : ErrorClass) (source : EventSource) :
    (s.uncorrectableRead own word cls source).writeBacks = s.writeBacks := by
  rw [State.uncorrectableRead_changes]
@[simp] theorem State.uncorrectableRead_patrol (own : Report) (word : Nat) (cls : ErrorClass) (source : EventSource) :
    (s.uncorrectableRead own word cls source).patrol = s.patrol := by
  rw [State.uncorrectableRead_changes]
@[simp] theorem State.uncorrectableRead_slots (own : Report) (word : Nat) (cls : ErrorClass) (source : EventSource) :
    (s.uncorrectableRead own word cls source).slots = s.slots := by
  rw [State.uncorrectableRead_changes]
@[simp] theorem State.uncorrectableRead_copy (own : Report) (word : Nat) (cls : ErrorClass) (source : EventSource) :
    (s.uncorrectableRead own word cls source).copy = s.copy := by
  rw [State.uncorrectableRead_changes]
@[simp] theorem State.uncorrectableRead_mode (own : Report) (word : Nat) (cls : ErrorClass) (source : EventSource) :
    (s.uncorrectableRead own word cls source).mode = s.mode := by
  rw [State.uncorrectableRead_changes]
@[simp] theorem State.uncorrectableRead_sweepLine (own : Report) (word : Nat) (cls : ErrorClass) (source : EventSource) :
    (s.uncorrectableRead own word cls source).sweepLine = s.sweepLine := by
  rw [State.uncorrectableRead_changes]
@[simp] theorem State.uncorrectableRead_sweepIndex (own : Report) (word : Nat) (cls : ErrorClass) (source : EventSource) :
    (s.uncorrectableRead own word cls source).sweepIndex = s.sweepIndex := by
  rw [State.uncorrectableRead_changes]
@[simp] theorem State.uncorrectableRead_settings (own : Report) (word : Nat) (cls : ErrorClass) (source : EventSource) :
    (s.uncorrectableRead own word cls source).settings = s.settings := by
  rw [State.uncorrectableRead_changes]
@[simp] theorem State.uncorrectableRead_frame (own : Report) (word : Nat) (cls : ErrorClass) (source : EventSource) :
    (s.uncorrectableRead own word cls source).frame = s.frame := by
  rw [State.uncorrectableRead_changes]
@[simp] theorem State.uncorrectableRead_cells (own : Report) (word : Nat) (cls : ErrorClass) (source : EventSource) :
    (s.uncorrectableRead own word cls source).cells = s.cells := by
  rw [State.uncorrectableRead_changes]
@[simp] theorem State.uncorrectableRead_pending (own : Report) (word : Nat) (cls : ErrorClass) (source : EventSource) :
    (s.uncorrectableRead own word cls source).pending = s.pending := by
  rw [State.uncorrectableRead_changes]

theorem State.requestWriteBack_changes (word : Nat) (data : DataWord) :
    s.requestWriteBack word data = { s with
      writeBacks := (s.requestWriteBack word data).writeBacks } := by
  unfold State.requestWriteBack
  split <;> rfl

@[simp] theorem State.requestWriteBack_hstb (word : Nat) (data : DataWord) :
    (s.requestWriteBack word data).hstb = s.hstb := by
  rw [State.requestWriteBack_changes]
@[simp] theorem State.requestWriteBack_strobeHeld (word : Nat) (data : DataWord) :
    (s.requestWriteBack word data).strobeHeld = s.strobeHeld := by
  rw [State.requestWriteBack_changes]
@[simp] theorem State.requestWriteBack_hreset (word : Nat) (data : DataWord) :
    (s.requestWriteBack word data).hreset = s.hreset := by
  rw [State.requestWriteBack_changes]
@[simp] theorem State.requestWriteBack_poreset (word : Nat) (data : DataWord) :
    (s.requestWriteBack word data).poreset = s.poreset := by
  rw [State.requestWriteBack_changes]
@[simp] theorem State.requestWriteBack_mcs (word : Nat) (data : DataWord) :
    (s.requestWriteBack word data).mcs = s.mcs := by
  rw [State.requestWriteBack_changes]
@[simp] theorem State.requestWriteBack_host (word : Nat) (data : DataWord) :
    (s.requestWriteBack word data).host = s.host := by
  rw [State.requestWriteBack_changes]
@[simp] theorem State.requestWriteBack_port (word : Nat) (data : DataWord) :
    (s.requestWriteBack word data).port = s.port := by
  rw [State.requestWriteBack_changes]
@[simp] theorem State.requestWriteBack_award (word : Nat) (data : DataWord) :
    (s.requestWriteBack word data).award = s.award := by
  rw [State.requestWriteBack_changes]
@[simp] theorem State.requestWriteBack_decisionOpen (word : Nat) (data : DataWord) :
    (s.requestWriteBack word data).decisionOpen = s.decisionOpen := by
  rw [State.requestWriteBack_changes]
@[simp] theorem State.requestWriteBack_starvation (word : Nat) (data : DataWord) :
    (s.requestWriteBack word data).starvation = s.starvation := by
  rw [State.requestWriteBack_changes]
@[simp] theorem State.requestWriteBack_patrol (word : Nat) (data : DataWord) :
    (s.requestWriteBack word data).patrol = s.patrol := by
  rw [State.requestWriteBack_changes]
@[simp] theorem State.requestWriteBack_health (word : Nat) (data : DataWord) :
    (s.requestWriteBack word data).health = s.health := by
  rw [State.requestWriteBack_changes]
@[simp] theorem State.requestWriteBack_slots (word : Nat) (data : DataWord) :
    (s.requestWriteBack word data).slots = s.slots := by
  rw [State.requestWriteBack_changes]
@[simp] theorem State.requestWriteBack_migrations (word : Nat) (data : DataWord) :
    (s.requestWriteBack word data).migrations = s.migrations := by
  rw [State.requestWriteBack_changes]
@[simp] theorem State.requestWriteBack_copy (word : Nat) (data : DataWord) :
    (s.requestWriteBack word data).copy = s.copy := by
  rw [State.requestWriteBack_changes]
@[simp] theorem State.requestWriteBack_mode (word : Nat) (data : DataWord) :
    (s.requestWriteBack word data).mode = s.mode := by
  rw [State.requestWriteBack_changes]
@[simp] theorem State.requestWriteBack_sweepLine (word : Nat) (data : DataWord) :
    (s.requestWriteBack word data).sweepLine = s.sweepLine := by
  rw [State.requestWriteBack_changes]
@[simp] theorem State.requestWriteBack_sweepIndex (word : Nat) (data : DataWord) :
    (s.requestWriteBack word data).sweepIndex = s.sweepIndex := by
  rw [State.requestWriteBack_changes]
@[simp] theorem State.requestWriteBack_reports (word : Nat) (data : DataWord) :
    (s.requestWriteBack word data).reports = s.reports := by
  rw [State.requestWriteBack_changes]
@[simp] theorem State.requestWriteBack_sequence (word : Nat) (data : DataWord) :
    (s.requestWriteBack word data).sequence = s.sequence := by
  rw [State.requestWriteBack_changes]
@[simp] theorem State.requestWriteBack_alert (word : Nat) (data : DataWord) :
    (s.requestWriteBack word data).alert = s.alert := by
  rw [State.requestWriteBack_changes]
@[simp] theorem State.requestWriteBack_settings (word : Nat) (data : DataWord) :
    (s.requestWriteBack word data).settings = s.settings := by
  rw [State.requestWriteBack_changes]
@[simp] theorem State.requestWriteBack_frame (word : Nat) (data : DataWord) :
    (s.requestWriteBack word data).frame = s.frame := by
  rw [State.requestWriteBack_changes]
@[simp] theorem State.requestWriteBack_cells (word : Nat) (data : DataWord) :
    (s.requestWriteBack word data).cells = s.cells := by
  rw [State.requestWriteBack_changes]
@[simp] theorem State.requestWriteBack_freeIndex (word : Nat) (data : DataWord) :
    (s.requestWriteBack word data).freeIndex = s.freeIndex := by
  rw [State.requestWriteBack_changes]
@[simp] theorem State.requestWriteBack_pending (word : Nat) (data : DataWord) :
    (s.requestWriteBack word data).pending = s.pending := by
  rw [State.requestWriteBack_changes]

theorem State.ageHealth_changes (pass : Pass) :
    s.ageHealth pass = { s with
      health := (s.ageHealth pass).health } := by
  unfold State.ageHealth
  split <;> rfl

theorem State.passEnd_changes :
    s.passEnd = { s with
      health := (s.passEnd).health
      patrol := (s.passEnd).patrol } := by
  unfold State.passEnd
  dsimp only
  rw [State.ageHealth_changes]

theorem State.nextLine_changes :
    s.nextLine = { s with
      health := (s.nextLine).health
      patrol := (s.nextLine).patrol } := by
  unfold State.nextLine
  dsimp only
  split
  · rw [State.passEnd_changes]
  · rfl

@[simp] theorem State.nextLine_hstb : (s.nextLine).hstb = s.hstb := by
  rw [State.nextLine_changes]
@[simp] theorem State.nextLine_strobeHeld : (s.nextLine).strobeHeld = s.strobeHeld := by
  rw [State.nextLine_changes]
@[simp] theorem State.nextLine_hreset : (s.nextLine).hreset = s.hreset := by
  rw [State.nextLine_changes]
@[simp] theorem State.nextLine_poreset : (s.nextLine).poreset = s.poreset := by
  rw [State.nextLine_changes]
@[simp] theorem State.nextLine_mcs : (s.nextLine).mcs = s.mcs := by
  rw [State.nextLine_changes]
@[simp] theorem State.nextLine_host : (s.nextLine).host = s.host := by
  rw [State.nextLine_changes]
@[simp] theorem State.nextLine_port : (s.nextLine).port = s.port := by
  rw [State.nextLine_changes]
@[simp] theorem State.nextLine_award : (s.nextLine).award = s.award := by
  rw [State.nextLine_changes]
@[simp] theorem State.nextLine_decisionOpen : (s.nextLine).decisionOpen = s.decisionOpen := by
  rw [State.nextLine_changes]
@[simp] theorem State.nextLine_starvation : (s.nextLine).starvation = s.starvation := by
  rw [State.nextLine_changes]
@[simp] theorem State.nextLine_writeBacks : (s.nextLine).writeBacks = s.writeBacks := by
  rw [State.nextLine_changes]
@[simp] theorem State.nextLine_slots : (s.nextLine).slots = s.slots := by
  rw [State.nextLine_changes]
@[simp] theorem State.nextLine_migrations : (s.nextLine).migrations = s.migrations := by
  rw [State.nextLine_changes]
@[simp] theorem State.nextLine_copy : (s.nextLine).copy = s.copy := by
  rw [State.nextLine_changes]
@[simp] theorem State.nextLine_mode : (s.nextLine).mode = s.mode := by
  rw [State.nextLine_changes]
@[simp] theorem State.nextLine_sweepLine : (s.nextLine).sweepLine = s.sweepLine := by
  rw [State.nextLine_changes]
@[simp] theorem State.nextLine_sweepIndex : (s.nextLine).sweepIndex = s.sweepIndex := by
  rw [State.nextLine_changes]
@[simp] theorem State.nextLine_reports : (s.nextLine).reports = s.reports := by
  rw [State.nextLine_changes]
@[simp] theorem State.nextLine_sequence : (s.nextLine).sequence = s.sequence := by
  rw [State.nextLine_changes]
@[simp] theorem State.nextLine_alert : (s.nextLine).alert = s.alert := by
  rw [State.nextLine_changes]
@[simp] theorem State.nextLine_settings : (s.nextLine).settings = s.settings := by
  rw [State.nextLine_changes]
@[simp] theorem State.nextLine_frame : (s.nextLine).frame = s.frame := by
  rw [State.nextLine_changes]
@[simp] theorem State.nextLine_cells : (s.nextLine).cells = s.cells := by
  rw [State.nextLine_changes]
@[simp] theorem State.nextLine_freeIndex : (s.nextLine).freeIndex = s.freeIndex := by
  rw [State.nextLine_changes]
@[simp] theorem State.nextLine_pending : (s.nextLine).pending = s.pending := by
  rw [State.nextLine_changes]

theorem State.advancePatrol_changes :
    s.advancePatrol = { s with
      health := (s.advancePatrol).health
      patrol := (s.advancePatrol).patrol } := by
  unfold State.advancePatrol
  split
  · rfl
  · rw [State.nextLine_changes]

@[simp] theorem State.advancePatrol_hstb : (s.advancePatrol).hstb = s.hstb := by
  rw [State.advancePatrol_changes]
@[simp] theorem State.advancePatrol_strobeHeld : (s.advancePatrol).strobeHeld = s.strobeHeld := by
  rw [State.advancePatrol_changes]
@[simp] theorem State.advancePatrol_hreset : (s.advancePatrol).hreset = s.hreset := by
  rw [State.advancePatrol_changes]
@[simp] theorem State.advancePatrol_poreset : (s.advancePatrol).poreset = s.poreset := by
  rw [State.advancePatrol_changes]
@[simp] theorem State.advancePatrol_mcs : (s.advancePatrol).mcs = s.mcs := by
  rw [State.advancePatrol_changes]
@[simp] theorem State.advancePatrol_host : (s.advancePatrol).host = s.host := by
  rw [State.advancePatrol_changes]
@[simp] theorem State.advancePatrol_port : (s.advancePatrol).port = s.port := by
  rw [State.advancePatrol_changes]
@[simp] theorem State.advancePatrol_award : (s.advancePatrol).award = s.award := by
  rw [State.advancePatrol_changes]
@[simp] theorem State.advancePatrol_decisionOpen : (s.advancePatrol).decisionOpen = s.decisionOpen := by
  rw [State.advancePatrol_changes]
@[simp] theorem State.advancePatrol_starvation : (s.advancePatrol).starvation = s.starvation := by
  rw [State.advancePatrol_changes]
@[simp] theorem State.advancePatrol_writeBacks : (s.advancePatrol).writeBacks = s.writeBacks := by
  rw [State.advancePatrol_changes]
@[simp] theorem State.advancePatrol_slots : (s.advancePatrol).slots = s.slots := by
  rw [State.advancePatrol_changes]
@[simp] theorem State.advancePatrol_migrations : (s.advancePatrol).migrations = s.migrations := by
  rw [State.advancePatrol_changes]
@[simp] theorem State.advancePatrol_copy : (s.advancePatrol).copy = s.copy := by
  rw [State.advancePatrol_changes]
@[simp] theorem State.advancePatrol_mode : (s.advancePatrol).mode = s.mode := by
  rw [State.advancePatrol_changes]
@[simp] theorem State.advancePatrol_sweepLine : (s.advancePatrol).sweepLine = s.sweepLine := by
  rw [State.advancePatrol_changes]
@[simp] theorem State.advancePatrol_sweepIndex : (s.advancePatrol).sweepIndex = s.sweepIndex := by
  rw [State.advancePatrol_changes]
@[simp] theorem State.advancePatrol_reports : (s.advancePatrol).reports = s.reports := by
  rw [State.advancePatrol_changes]
@[simp] theorem State.advancePatrol_sequence : (s.advancePatrol).sequence = s.sequence := by
  rw [State.advancePatrol_changes]
@[simp] theorem State.advancePatrol_alert : (s.advancePatrol).alert = s.alert := by
  rw [State.advancePatrol_changes]
@[simp] theorem State.advancePatrol_settings : (s.advancePatrol).settings = s.settings := by
  rw [State.advancePatrol_changes]
@[simp] theorem State.advancePatrol_frame : (s.advancePatrol).frame = s.frame := by
  rw [State.advancePatrol_changes]
@[simp] theorem State.advancePatrol_cells : (s.advancePatrol).cells = s.cells := by
  rw [State.advancePatrol_changes]
@[simp] theorem State.advancePatrol_freeIndex : (s.advancePatrol).freeIndex = s.freeIndex := by
  rw [State.advancePatrol_changes]
@[simp] theorem State.advancePatrol_pending : (s.advancePatrol).pending = s.pending := by
  rw [State.advancePatrol_changes]

theorem State.respond_changes (o : HostOutcome) (hd : Option DataWord) :
    s.respond o hd = { s with
      host := (s.respond o hd).host } := by
  unfold State.respond
  split <;> rfl

@[simp] theorem State.respond_hstb (o : HostOutcome) (hd : Option DataWord) : (s.respond o hd).hstb = s.hstb := by
  rw [State.respond_changes]
@[simp] theorem State.respond_strobeHeld (o : HostOutcome) (hd : Option DataWord) :
    (s.respond o hd).strobeHeld = s.strobeHeld := by
  rw [State.respond_changes]
@[simp] theorem State.respond_hreset (o : HostOutcome) (hd : Option DataWord) :
    (s.respond o hd).hreset = s.hreset := by
  rw [State.respond_changes]
@[simp] theorem State.respond_poreset (o : HostOutcome) (hd : Option DataWord) :
    (s.respond o hd).poreset = s.poreset := by
  rw [State.respond_changes]
@[simp] theorem State.respond_mcs (o : HostOutcome) (hd : Option DataWord) : (s.respond o hd).mcs = s.mcs := by
  rw [State.respond_changes]
@[simp] theorem State.respond_port (o : HostOutcome) (hd : Option DataWord) : (s.respond o hd).port = s.port := by
  rw [State.respond_changes]
@[simp] theorem State.respond_award (o : HostOutcome) (hd : Option DataWord) : (s.respond o hd).award = s.award := by
  rw [State.respond_changes]
@[simp] theorem State.respond_decisionOpen (o : HostOutcome) (hd : Option DataWord) :
    (s.respond o hd).decisionOpen = s.decisionOpen := by
  rw [State.respond_changes]
@[simp] theorem State.respond_starvation (o : HostOutcome) (hd : Option DataWord) :
    (s.respond o hd).starvation = s.starvation := by
  rw [State.respond_changes]
@[simp] theorem State.respond_writeBacks (o : HostOutcome) (hd : Option DataWord) :
    (s.respond o hd).writeBacks = s.writeBacks := by
  rw [State.respond_changes]
@[simp] theorem State.respond_patrol (o : HostOutcome) (hd : Option DataWord) :
    (s.respond o hd).patrol = s.patrol := by
  rw [State.respond_changes]
@[simp] theorem State.respond_health (o : HostOutcome) (hd : Option DataWord) :
    (s.respond o hd).health = s.health := by
  rw [State.respond_changes]
@[simp] theorem State.respond_slots (o : HostOutcome) (hd : Option DataWord) : (s.respond o hd).slots = s.slots := by
  rw [State.respond_changes]
@[simp] theorem State.respond_migrations (o : HostOutcome) (hd : Option DataWord) :
    (s.respond o hd).migrations = s.migrations := by
  rw [State.respond_changes]
@[simp] theorem State.respond_copy (o : HostOutcome) (hd : Option DataWord) : (s.respond o hd).copy = s.copy := by
  rw [State.respond_changes]
@[simp] theorem State.respond_mode (o : HostOutcome) (hd : Option DataWord) : (s.respond o hd).mode = s.mode := by
  rw [State.respond_changes]
@[simp] theorem State.respond_sweepLine (o : HostOutcome) (hd : Option DataWord) :
    (s.respond o hd).sweepLine = s.sweepLine := by
  rw [State.respond_changes]
@[simp] theorem State.respond_sweepIndex (o : HostOutcome) (hd : Option DataWord) :
    (s.respond o hd).sweepIndex = s.sweepIndex := by
  rw [State.respond_changes]
@[simp] theorem State.respond_reports (o : HostOutcome) (hd : Option DataWord) :
    (s.respond o hd).reports = s.reports := by
  rw [State.respond_changes]
@[simp] theorem State.respond_sequence (o : HostOutcome) (hd : Option DataWord) :
    (s.respond o hd).sequence = s.sequence := by
  rw [State.respond_changes]
@[simp] theorem State.respond_alert (o : HostOutcome) (hd : Option DataWord) : (s.respond o hd).alert = s.alert := by
  rw [State.respond_changes]
@[simp] theorem State.respond_settings (o : HostOutcome) (hd : Option DataWord) :
    (s.respond o hd).settings = s.settings := by
  rw [State.respond_changes]
@[simp] theorem State.respond_frame (o : HostOutcome) (hd : Option DataWord) : (s.respond o hd).frame = s.frame := by
  rw [State.respond_changes]
@[simp] theorem State.respond_cells (o : HostOutcome) (hd : Option DataWord) : (s.respond o hd).cells = s.cells := by
  rw [State.respond_changes]
@[simp] theorem State.respond_freeIndex (o : HostOutcome) (hd : Option DataWord) :
    (s.respond o hd).freeIndex = s.freeIndex := by
  rw [State.respond_changes]
@[simp] theorem State.respond_pending (o : HostOutcome) (hd : Option DataWord) :
    (s.respond o hd).pending = s.pending := by
  rw [State.respond_changes]

theorem State.refuseCycle_changes (r : CycleRecord) (reason : RefusalReason) :
    s.refuseCycle r reason = { s with
      host := (s.refuseCycle r reason).host
      reports := (s.refuseCycle r reason).reports
      sequence := (s.refuseCycle r reason).sequence
      alert := (s.refuseCycle r reason).alert } := by
  unfold State.refuseCycle
  dsimp only
  rw [State.respond_changes, State.append_changes]

theorem State.quietCheck_changes :
    s.quietCheck = { s with
      mode := (s.quietCheck).mode
      reports := (s.quietCheck).reports
      sequence := (s.quietCheck).sequence
      alert := (s.quietCheck).alert } := by
  unfold State.quietCheck
  split
  · dsimp only
    rw [State.append_changes]
  · rfl

@[simp] theorem State.quietCheck_hstb : (s.quietCheck).hstb = s.hstb := by
  rw [State.quietCheck_changes]
@[simp] theorem State.quietCheck_strobeHeld : (s.quietCheck).strobeHeld = s.strobeHeld := by
  rw [State.quietCheck_changes]
@[simp] theorem State.quietCheck_hreset : (s.quietCheck).hreset = s.hreset := by
  rw [State.quietCheck_changes]
@[simp] theorem State.quietCheck_poreset : (s.quietCheck).poreset = s.poreset := by
  rw [State.quietCheck_changes]
@[simp] theorem State.quietCheck_mcs : (s.quietCheck).mcs = s.mcs := by
  rw [State.quietCheck_changes]
@[simp] theorem State.quietCheck_host : (s.quietCheck).host = s.host := by
  rw [State.quietCheck_changes]
@[simp] theorem State.quietCheck_port : (s.quietCheck).port = s.port := by
  rw [State.quietCheck_changes]
@[simp] theorem State.quietCheck_award : (s.quietCheck).award = s.award := by
  rw [State.quietCheck_changes]
@[simp] theorem State.quietCheck_decisionOpen : (s.quietCheck).decisionOpen = s.decisionOpen := by
  rw [State.quietCheck_changes]
@[simp] theorem State.quietCheck_starvation : (s.quietCheck).starvation = s.starvation := by
  rw [State.quietCheck_changes]
@[simp] theorem State.quietCheck_writeBacks : (s.quietCheck).writeBacks = s.writeBacks := by
  rw [State.quietCheck_changes]
@[simp] theorem State.quietCheck_patrol : (s.quietCheck).patrol = s.patrol := by
  rw [State.quietCheck_changes]
@[simp] theorem State.quietCheck_health : (s.quietCheck).health = s.health := by
  rw [State.quietCheck_changes]
@[simp] theorem State.quietCheck_slots : (s.quietCheck).slots = s.slots := by
  rw [State.quietCheck_changes]
@[simp] theorem State.quietCheck_migrations : (s.quietCheck).migrations = s.migrations := by
  rw [State.quietCheck_changes]
@[simp] theorem State.quietCheck_copy : (s.quietCheck).copy = s.copy := by
  rw [State.quietCheck_changes]
@[simp] theorem State.quietCheck_sweepLine : (s.quietCheck).sweepLine = s.sweepLine := by
  rw [State.quietCheck_changes]
@[simp] theorem State.quietCheck_sweepIndex : (s.quietCheck).sweepIndex = s.sweepIndex := by
  rw [State.quietCheck_changes]
@[simp] theorem State.quietCheck_settings : (s.quietCheck).settings = s.settings := by
  rw [State.quietCheck_changes]
@[simp] theorem State.quietCheck_frame : (s.quietCheck).frame = s.frame := by
  rw [State.quietCheck_changes]
@[simp] theorem State.quietCheck_cells : (s.quietCheck).cells = s.cells := by
  rw [State.quietCheck_changes]
@[simp] theorem State.quietCheck_freeIndex : (s.quietCheck).freeIndex = s.freeIndex := by
  rw [State.quietCheck_changes]
@[simp] theorem State.quietCheck_pending : (s.quietCheck).pending = s.pending := by
  rw [State.quietCheck_changes]

theorem State.arbitrate_changes :
    s.arbitrate = { s with
      award := (s.arbitrate).award } := by
  unfold State.arbitrate
  split <;> rfl

@[simp] theorem State.arbitrate_hstb : (s.arbitrate).hstb = s.hstb := by
  rw [State.arbitrate_changes]
@[simp] theorem State.arbitrate_strobeHeld : (s.arbitrate).strobeHeld = s.strobeHeld := by
  rw [State.arbitrate_changes]
@[simp] theorem State.arbitrate_hreset : (s.arbitrate).hreset = s.hreset := by
  rw [State.arbitrate_changes]
@[simp] theorem State.arbitrate_poreset : (s.arbitrate).poreset = s.poreset := by
  rw [State.arbitrate_changes]
@[simp] theorem State.arbitrate_mcs : (s.arbitrate).mcs = s.mcs := by
  rw [State.arbitrate_changes]
@[simp] theorem State.arbitrate_host : (s.arbitrate).host = s.host := by
  rw [State.arbitrate_changes]
@[simp] theorem State.arbitrate_port : (s.arbitrate).port = s.port := by
  rw [State.arbitrate_changes]
@[simp] theorem State.arbitrate_decisionOpen : (s.arbitrate).decisionOpen = s.decisionOpen := by
  rw [State.arbitrate_changes]
@[simp] theorem State.arbitrate_starvation : (s.arbitrate).starvation = s.starvation := by
  rw [State.arbitrate_changes]
@[simp] theorem State.arbitrate_writeBacks : (s.arbitrate).writeBacks = s.writeBacks := by
  rw [State.arbitrate_changes]
@[simp] theorem State.arbitrate_patrol : (s.arbitrate).patrol = s.patrol := by
  rw [State.arbitrate_changes]
@[simp] theorem State.arbitrate_health : (s.arbitrate).health = s.health := by
  rw [State.arbitrate_changes]
@[simp] theorem State.arbitrate_slots : (s.arbitrate).slots = s.slots := by
  rw [State.arbitrate_changes]
@[simp] theorem State.arbitrate_migrations : (s.arbitrate).migrations = s.migrations := by
  rw [State.arbitrate_changes]
@[simp] theorem State.arbitrate_copy : (s.arbitrate).copy = s.copy := by
  rw [State.arbitrate_changes]
@[simp] theorem State.arbitrate_mode : (s.arbitrate).mode = s.mode := by
  rw [State.arbitrate_changes]
@[simp] theorem State.arbitrate_sweepLine : (s.arbitrate).sweepLine = s.sweepLine := by
  rw [State.arbitrate_changes]
@[simp] theorem State.arbitrate_sweepIndex : (s.arbitrate).sweepIndex = s.sweepIndex := by
  rw [State.arbitrate_changes]
@[simp] theorem State.arbitrate_reports : (s.arbitrate).reports = s.reports := by
  rw [State.arbitrate_changes]
@[simp] theorem State.arbitrate_sequence : (s.arbitrate).sequence = s.sequence := by
  rw [State.arbitrate_changes]
@[simp] theorem State.arbitrate_alert : (s.arbitrate).alert = s.alert := by
  rw [State.arbitrate_changes]
@[simp] theorem State.arbitrate_settings : (s.arbitrate).settings = s.settings := by
  rw [State.arbitrate_changes]
@[simp] theorem State.arbitrate_frame : (s.arbitrate).frame = s.frame := by
  rw [State.arbitrate_changes]
@[simp] theorem State.arbitrate_cells : (s.arbitrate).cells = s.cells := by
  rw [State.arbitrate_changes]
@[simp] theorem State.arbitrate_freeIndex : (s.arbitrate).freeIndex = s.freeIndex := by
  rw [State.arbitrate_changes]
@[simp] theorem State.arbitrate_pending : (s.arbitrate).pending = s.pending := by
  rw [State.arbitrate_changes]

theorem State.release_changes :
    s.release = { s with
      port := (s.release).port
      award := (s.release).award
      decisionOpen := (s.release).decisionOpen } := rfl

@[simp] theorem State.release_hstb : (s.release).hstb = s.hstb := by
  rw [State.release_changes]
@[simp] theorem State.release_strobeHeld : (s.release).strobeHeld = s.strobeHeld := by
  rw [State.release_changes]
@[simp] theorem State.release_hreset : (s.release).hreset = s.hreset := by
  rw [State.release_changes]
@[simp] theorem State.release_poreset : (s.release).poreset = s.poreset := by
  rw [State.release_changes]
@[simp] theorem State.release_mcs : (s.release).mcs = s.mcs := by
  rw [State.release_changes]
@[simp] theorem State.release_host : (s.release).host = s.host := by
  rw [State.release_changes]
@[simp] theorem State.release_starvation : (s.release).starvation = s.starvation := by
  rw [State.release_changes]
@[simp] theorem State.release_writeBacks : (s.release).writeBacks = s.writeBacks := by
  rw [State.release_changes]
@[simp] theorem State.release_patrol : (s.release).patrol = s.patrol := by
  rw [State.release_changes]
@[simp] theorem State.release_health : (s.release).health = s.health := by
  rw [State.release_changes]
@[simp] theorem State.release_slots : (s.release).slots = s.slots := by
  rw [State.release_changes]
@[simp] theorem State.release_migrations : (s.release).migrations = s.migrations := by
  rw [State.release_changes]
@[simp] theorem State.release_copy : (s.release).copy = s.copy := by
  rw [State.release_changes]
@[simp] theorem State.release_mode : (s.release).mode = s.mode := by
  rw [State.release_changes]
@[simp] theorem State.release_sweepLine : (s.release).sweepLine = s.sweepLine := by
  rw [State.release_changes]
@[simp] theorem State.release_sweepIndex : (s.release).sweepIndex = s.sweepIndex := by
  rw [State.release_changes]
@[simp] theorem State.release_reports : (s.release).reports = s.reports := by
  rw [State.release_changes]
@[simp] theorem State.release_sequence : (s.release).sequence = s.sequence := by
  rw [State.release_changes]
@[simp] theorem State.release_alert : (s.release).alert = s.alert := by
  rw [State.release_changes]
@[simp] theorem State.release_settings : (s.release).settings = s.settings := by
  rw [State.release_changes]
@[simp] theorem State.release_frame : (s.release).frame = s.frame := by
  rw [State.release_changes]
@[simp] theorem State.release_cells : (s.release).cells = s.cells := by
  rw [State.release_changes]
@[simp] theorem State.release_freeIndex : (s.release).freeIndex = s.freeIndex := by
  rw [State.release_changes]
@[simp] theorem State.release_pending : (s.release).pending = s.pending := by
  rw [State.release_changes]

theorem State.dropCopy_changes (c : Copy) :
    s.dropCopy c = { s with
      slots := (s.dropCopy c).slots
      health := (s.dropCopy c).health
      copy := (s.dropCopy c).copy } := rfl

theorem State.cancelCopy_changes (c : Copy) :
    s.cancelCopy c = { s with
      slots := (s.cancelCopy c).slots
      health := (s.cancelCopy c).health
      copy := (s.cancelCopy c).copy
      reports := (s.cancelCopy c).reports
      sequence := (s.cancelCopy c).sequence
      alert := (s.cancelCopy c).alert } := by
  unfold State.cancelCopy
  rw [State.append_changes]
  rfl

theorem State.resolveAbort_changes :
    s.resolveAbort = { s with
      slots := (s.resolveAbort).slots
      health := (s.resolveAbort).health
      copy := (s.resolveAbort).copy
      reports := (s.resolveAbort).reports
      sequence := (s.resolveAbort).sequence
      alert := (s.resolveAbort).alert } := by
  unfold State.resolveAbort
  split
  · split
    · rw [State.cancelCopy_changes]
    · rfl
  · rfl

@[simp] theorem State.resolveAbort_hstb : (s.resolveAbort).hstb = s.hstb := by
  rw [State.resolveAbort_changes]
@[simp] theorem State.resolveAbort_strobeHeld : (s.resolveAbort).strobeHeld = s.strobeHeld := by
  rw [State.resolveAbort_changes]
@[simp] theorem State.resolveAbort_hreset : (s.resolveAbort).hreset = s.hreset := by
  rw [State.resolveAbort_changes]
@[simp] theorem State.resolveAbort_poreset : (s.resolveAbort).poreset = s.poreset := by
  rw [State.resolveAbort_changes]
@[simp] theorem State.resolveAbort_mcs : (s.resolveAbort).mcs = s.mcs := by
  rw [State.resolveAbort_changes]
@[simp] theorem State.resolveAbort_host : (s.resolveAbort).host = s.host := by
  rw [State.resolveAbort_changes]
@[simp] theorem State.resolveAbort_port : (s.resolveAbort).port = s.port := by
  rw [State.resolveAbort_changes]
@[simp] theorem State.resolveAbort_award : (s.resolveAbort).award = s.award := by
  rw [State.resolveAbort_changes]
@[simp] theorem State.resolveAbort_decisionOpen : (s.resolveAbort).decisionOpen = s.decisionOpen := by
  rw [State.resolveAbort_changes]
@[simp] theorem State.resolveAbort_starvation : (s.resolveAbort).starvation = s.starvation := by
  rw [State.resolveAbort_changes]
@[simp] theorem State.resolveAbort_writeBacks : (s.resolveAbort).writeBacks = s.writeBacks := by
  rw [State.resolveAbort_changes]
@[simp] theorem State.resolveAbort_patrol : (s.resolveAbort).patrol = s.patrol := by
  rw [State.resolveAbort_changes]
@[simp] theorem State.resolveAbort_migrations : (s.resolveAbort).migrations = s.migrations := by
  rw [State.resolveAbort_changes]
@[simp] theorem State.resolveAbort_mode : (s.resolveAbort).mode = s.mode := by
  rw [State.resolveAbort_changes]
@[simp] theorem State.resolveAbort_sweepLine : (s.resolveAbort).sweepLine = s.sweepLine := by
  rw [State.resolveAbort_changes]
@[simp] theorem State.resolveAbort_sweepIndex : (s.resolveAbort).sweepIndex = s.sweepIndex := by
  rw [State.resolveAbort_changes]
@[simp] theorem State.resolveAbort_settings : (s.resolveAbort).settings = s.settings := by
  rw [State.resolveAbort_changes]
@[simp] theorem State.resolveAbort_frame : (s.resolveAbort).frame = s.frame := by
  rw [State.resolveAbort_changes]
@[simp] theorem State.resolveAbort_cells : (s.resolveAbort).cells = s.cells := by
  rw [State.resolveAbort_changes]
@[simp] theorem State.resolveAbort_freeIndex : (s.resolveAbort).freeIndex = s.freeIndex := by
  rw [State.resolveAbort_changes]
@[simp] theorem State.resolveAbort_pending : (s.resolveAbort).pending = s.pending := by
  rw [State.resolveAbort_changes]

theorem State.endGrant_changes :
    s.endGrant = { s with
      slots := (s.endGrant).slots
      health := (s.endGrant).health
      copy := (s.endGrant).copy
      mode := (s.endGrant).mode
      port := (s.endGrant).port
      award := (s.endGrant).award
      decisionOpen := (s.endGrant).decisionOpen
      reports := (s.endGrant).reports
      sequence := (s.endGrant).sequence
      alert := (s.endGrant).alert } := by
  unfold State.endGrant
  rw [State.release_changes, State.quietCheck_changes, State.resolveAbort_changes]

@[simp] theorem State.endGrant_hstb : (s.endGrant).hstb = s.hstb := by
  rw [State.endGrant_changes]
@[simp] theorem State.endGrant_strobeHeld : (s.endGrant).strobeHeld = s.strobeHeld := by
  rw [State.endGrant_changes]
@[simp] theorem State.endGrant_hreset : (s.endGrant).hreset = s.hreset := by
  rw [State.endGrant_changes]
@[simp] theorem State.endGrant_poreset : (s.endGrant).poreset = s.poreset := by
  rw [State.endGrant_changes]
@[simp] theorem State.endGrant_mcs : (s.endGrant).mcs = s.mcs := by
  rw [State.endGrant_changes]
@[simp] theorem State.endGrant_host : (s.endGrant).host = s.host := by
  rw [State.endGrant_changes]
@[simp] theorem State.endGrant_starvation : (s.endGrant).starvation = s.starvation := by
  rw [State.endGrant_changes]
@[simp] theorem State.endGrant_writeBacks : (s.endGrant).writeBacks = s.writeBacks := by
  rw [State.endGrant_changes]
@[simp] theorem State.endGrant_patrol : (s.endGrant).patrol = s.patrol := by
  rw [State.endGrant_changes]
@[simp] theorem State.endGrant_migrations : (s.endGrant).migrations = s.migrations := by
  rw [State.endGrant_changes]
@[simp] theorem State.endGrant_sweepLine : (s.endGrant).sweepLine = s.sweepLine := by
  rw [State.endGrant_changes]
@[simp] theorem State.endGrant_sweepIndex : (s.endGrant).sweepIndex = s.sweepIndex := by
  rw [State.endGrant_changes]
@[simp] theorem State.endGrant_settings : (s.endGrant).settings = s.settings := by
  rw [State.endGrant_changes]
@[simp] theorem State.endGrant_frame : (s.endGrant).frame = s.frame := by
  rw [State.endGrant_changes]
@[simp] theorem State.endGrant_cells : (s.endGrant).cells = s.cells := by
  rw [State.endGrant_changes]
@[simp] theorem State.endGrant_freeIndex : (s.endGrant).freeIndex = s.freeIndex := by
  rw [State.endGrant_changes]
@[simp] theorem State.endGrant_pending : (s.endGrant).pending = s.pending := by
  rw [State.endGrant_changes]

theorem State.finishHost_changes (o : HostOutcome) (hd : Option DataWord) :
    s.finishHost o hd = { s with
      host := (s.finishHost o hd).host
      slots := (s.finishHost o hd).slots
      health := (s.finishHost o hd).health
      copy := (s.finishHost o hd).copy
      mode := (s.finishHost o hd).mode
      port := (s.finishHost o hd).port
      award := (s.finishHost o hd).award
      decisionOpen := (s.finishHost o hd).decisionOpen
      reports := (s.finishHost o hd).reports
      sequence := (s.finishHost o hd).sequence
      alert := (s.finishHost o hd).alert } := by
  unfold State.finishHost
  rw [State.endGrant_changes, State.respond_changes]

theorem State.markPassed_changes (c : GrantCase) :
    s.markPassed c = { s with
      host := (s.markPassed c).host } := by
  unfold State.markPassed
  split <;> rfl

theorem State.grantStep_changes (c : GrantCase) :
    s.grantStep c = { s with
      host := (s.grantStep c).host
      award := (s.grantStep c).award
      decisionOpen := (s.grantStep c).decisionOpen
      starvation := (s.grantStep c).starvation } := by
  unfold State.grantStep
  dsimp only
  rw [State.markPassed_changes]

theorem State.grantHost_changes :
    s.grantHost = { s with
      host := (s.grantHost).host
      award := (s.grantHost).award
      decisionOpen := (s.grantHost).decisionOpen
      starvation := (s.grantHost).starvation
      port := (s.grantHost).port } := by
  unfold State.grantHost
  dsimp only
  split
  · rfl
  · split <;> rfl

theorem State.grantDrain_changes (c : GrantCase) :
    s.grantDrain c = { s with
      host := (s.grantDrain c).host
      award := (s.grantDrain c).award
      decisionOpen := (s.grantDrain c).decisionOpen
      starvation := (s.grantDrain c).starvation
      port := (s.grantDrain c).port } := by
  unfold State.grantDrain
  split
  · rw [State.grantStep_changes]
  · unfold State.beginAccess; rw [State.grantStep_changes]

theorem State.grantCopy_changes (c : GrantCase) :
    s.grantCopy c = { s with
      host := (s.grantCopy c).host
      award := (s.grantCopy c).award
      decisionOpen := (s.grantCopy c).decisionOpen
      starvation := (s.grantCopy c).starvation
      port := (s.grantCopy c).port } := by
  unfold State.grantCopy
  split
  · rw [State.grantStep_changes]
  · unfold State.beginAccess; rw [State.grantStep_changes]

theorem State.grantSweep_changes (c : GrantCase) :
    s.grantSweep c = { s with
      host := (s.grantSweep c).host
      award := (s.grantSweep c).award
      decisionOpen := (s.grantSweep c).decisionOpen
      starvation := (s.grantSweep c).starvation
      port := (s.grantSweep c).port } := by
  unfold State.grantSweep State.beginAccess
  rw [State.grantStep_changes]

theorem State.checkPatrolLine_changes :
    s.checkPatrolLine = { s with
      health := (s.checkPatrolLine).health
      patrol := (s.checkPatrolLine).patrol } := by
  unfold State.checkPatrolLine
  split
  · rfl
  · rw [State.nextLine_changes]

theorem State.grantPatrol_changes (c : GrantCase) :
    s.grantPatrol c = { s with
      host := (s.grantPatrol c).host
      award := (s.grantPatrol c).award
      decisionOpen := (s.grantPatrol c).decisionOpen
      starvation := (s.grantPatrol c).starvation
      port := (s.grantPatrol c).port
      patrol := (s.grantPatrol c).patrol
      health := (s.grantPatrol c).health } := by
  unfold State.grantPatrol State.beginAccess
  dsimp only
  rw [State.checkPatrolLine_changes, State.grantStep_changes]

theorem State.grant_changes (a : Award) :
    s.grant a = { s with
      host := (s.grant a).host
      award := (s.grant a).award
      decisionOpen := (s.grant a).decisionOpen
      starvation := (s.grant a).starvation
      port := (s.grant a).port
      patrol := (s.grant a).patrol
      health := (s.grant a).health } := by
  unfold State.grant
  split
  · rw [State.grantHost_changes]
  · rw [State.grantDrain_changes]
  · rw [State.grantPatrol_changes]
  · rw [State.grantCopy_changes]
  · rw [State.grantSweep_changes]

theorem State.settled_changes :
    s.settled = { s with
      host := (s.settled).host
      award := (s.settled).award
      decisionOpen := (s.settled).decisionOpen
      starvation := (s.settled).starvation
      port := (s.settled).port
      patrol := (s.settled).patrol
      health := (s.settled).health } := by
  unfold State.settled
  split
  · rw [State.grant_changes]
  · rfl

@[simp] theorem State.settled_hstb : (s.settled).hstb = s.hstb := by
  rw [State.settled_changes]
@[simp] theorem State.settled_strobeHeld : (s.settled).strobeHeld = s.strobeHeld := by
  rw [State.settled_changes]
@[simp] theorem State.settled_hreset : (s.settled).hreset = s.hreset := by
  rw [State.settled_changes]
@[simp] theorem State.settled_poreset : (s.settled).poreset = s.poreset := by
  rw [State.settled_changes]
@[simp] theorem State.settled_mcs : (s.settled).mcs = s.mcs := by
  rw [State.settled_changes]
@[simp] theorem State.settled_writeBacks : (s.settled).writeBacks = s.writeBacks := by
  rw [State.settled_changes]
@[simp] theorem State.settled_slots : (s.settled).slots = s.slots := by
  rw [State.settled_changes]
@[simp] theorem State.settled_migrations : (s.settled).migrations = s.migrations := by
  rw [State.settled_changes]
@[simp] theorem State.settled_copy : (s.settled).copy = s.copy := by
  rw [State.settled_changes]
@[simp] theorem State.settled_mode : (s.settled).mode = s.mode := by
  rw [State.settled_changes]
@[simp] theorem State.settled_sweepLine : (s.settled).sweepLine = s.sweepLine := by
  rw [State.settled_changes]
@[simp] theorem State.settled_sweepIndex : (s.settled).sweepIndex = s.sweepIndex := by
  rw [State.settled_changes]
@[simp] theorem State.settled_reports : (s.settled).reports = s.reports := by
  rw [State.settled_changes]
@[simp] theorem State.settled_sequence : (s.settled).sequence = s.sequence := by
  rw [State.settled_changes]
@[simp] theorem State.settled_alert : (s.settled).alert = s.alert := by
  rw [State.settled_changes]
@[simp] theorem State.settled_settings : (s.settled).settings = s.settings := by
  rw [State.settled_changes]
@[simp] theorem State.settled_frame : (s.settled).frame = s.frame := by
  rw [State.settled_changes]
@[simp] theorem State.settled_cells : (s.settled).cells = s.cells := by
  rw [State.settled_changes]
@[simp] theorem State.settled_freeIndex : (s.settled).freeIndex = s.freeIndex := by
  rw [State.settled_changes]
@[simp] theorem State.settled_pending : (s.settled).pending = s.pending := by
  rw [State.settled_changes]

theorem State.beginCopy_changes (r : MigrationRequest) (target : Nat) :
    s.beginCopy r target = { s with
      slots := (s.beginCopy r target).slots
      copy := (s.beginCopy r target).copy
      health := (s.beginCopy r target).health } := rfl

theorem State.takeFails_changes (r : MigrationRequest) :
    s.takeFails r = { s with
      health := (s.takeFails r).health
      reports := (s.takeFails r).reports
      sequence := (s.takeFails r).sequence
      alert := (s.takeFails r).alert } := by
  unfold State.takeFails
  rw [State.append_changes]
  rfl

theorem State.takeHead_changes :
    s.takeHead = { s with
      migrations := (s.takeHead).migrations
      slots := (s.takeHead).slots
      copy := (s.takeHead).copy
      health := (s.takeHead).health
      reports := (s.takeHead).reports
      sequence := (s.takeHead).sequence
      alert := (s.takeHead).alert } := by
  unfold State.takeHead
  split
  · rfl
  · dsimp only
    split
    · rw [State.beginCopy_changes]
    · rw [State.takeFails_changes]

theorem State.commitCopy_changes (c : Copy) :
    s.commitCopy c = { s with
      slots := (s.commitCopy c).slots
      writeBacks := (s.commitCopy c).writeBacks
      copy := (s.commitCopy c).copy
      health := (s.commitCopy c).health
      reports := (s.commitCopy c).reports
      sequence := (s.commitCopy c).sequence
      alert := (s.commitCopy c).alert } := by
  unfold State.commitCopy
  dsimp only
  rw [State.append_changes]
  unfold State.commitSlots
  cases c.sourceSlot <;> rfl

end Sys2Proof.Machine
end

