-- ==== Sys2Proof/Laws/Array.lean ====
section
/-! SUPPORT. The array's canonical form: every operation on the list of defined words keeps it, and after reset it holds. -/

namespace Sys2Proof.Machine

/-- Every word listed lies above a bound. -/
def allAbove (bound : Nat) (cells : List (Nat × StoredWord)) : Prop := ∀ c ∈ cells, bound < c.1

/-- A list in the canonical form is one whose head lies below the rest, which is in the form. -/
theorem cellsWf_cons (k : Nat) (v : StoredWord) (rest : List (Nat × StoredWord)) :
    cellsWf ((k, v) :: rest) = true ↔ allAbove k rest ∧ cellsWf rest = true := by
  induction rest generalizing k v with
  | nil => simp [cellsWf, allAbove]
  | cons c rest ih =>
    obtain ⟨k', v'⟩ := c
    simp only [cellsWf, Bool.and_eq_true, decide_eq_true_eq]
    constructor
    · rintro ⟨h, h'⟩
      refine ⟨?_, h'⟩
      intro c hc
      rcases List.mem_cons.mp hc with rfl | hc
      · exact h
      · exact Nat.lt_trans h (((ih k' v').mp h').1 c hc)
    · rintro ⟨h, h'⟩
      exact ⟨h (k', v') (List.mem_cons_self ..), h'⟩

theorem allAbove_setCell {bound a : Nat} {cells : List (Nat × StoredWord)} (w : StoredWord) (ha : bound < a)
    (h : allAbove bound cells) : allAbove bound (setCell cells a w) := by
  induction cells with
  | nil => intro c hc; simp [setCell] at hc; subst hc; exact ha
  | cons x rest ih =>
    obtain ⟨k, v⟩ := x
    have hk : bound < k := h (k, v) (List.mem_cons_self ..)
    have hr : allAbove bound rest := fun c hc => h c (List.mem_cons_of_mem _ hc)
    unfold setCell
    split
    · intro c hc
      rcases List.mem_cons.mp hc with rfl | hc
      · exact ha
      · exact h c hc
    · split
      · intro c hc
        rcases List.mem_cons.mp hc with rfl | hc
        · exact ha
        · exact hr c hc
      · intro c hc
        rcases List.mem_cons.mp hc with rfl | hc
        · exact hk
        · exact ih hr c hc

/-- A write keeps the form. -/
theorem cellsWf_setCell {cells : List (Nat × StoredWord)} (a : Nat) (w : StoredWord) (h : cellsWf cells = true) :
    cellsWf (setCell cells a w) = true := by
  induction cells with
  | nil => rfl
  | cons x rest ih =>
    obtain ⟨k, v⟩ := x
    obtain ⟨hk, hr⟩ := (cellsWf_cons k v rest).mp h
    unfold setCell
    split
    · rename_i hlt
      refine (cellsWf_cons a w _).mpr ⟨?_, h⟩
      intro c hc
      rcases List.mem_cons.mp hc with rfl | hc
      · exact hlt
      · exact Nat.lt_trans hlt (hk c hc)
    · split
      · rename_i heq
        subst heq
        exact (cellsWf_cons a w rest).mpr ⟨hk, hr⟩
      · exact (cellsWf_cons k v _).mpr ⟨allAbove_setCell w (by omega) hk, ih hr⟩

theorem allAbove_dropCell {bound : Nat} {cells : List (Nat × StoredWord)} (a : Nat) (h : allAbove bound cells) :
    allAbove bound (dropCell cells a) := by
  induction cells with
  | nil => exact h
  | cons x rest ih =>
    obtain ⟨k, v⟩ := x
    have hr : allAbove bound rest := fun c hc => h c (List.mem_cons_of_mem _ hc)
    unfold dropCell
    split
    · exact hr
    · intro c hc
      rcases List.mem_cons.mp hc with rfl | hc
      · exact h _ (List.mem_cons_self ..)
      · exact ih hr c hc

/-- A word that loses its defined contents leaves the form. -/
theorem cellsWf_dropCell {cells : List (Nat × StoredWord)} (a : Nat) (h : cellsWf cells = true) :
    cellsWf (dropCell cells a) = true := by
  induction cells with
  | nil => rfl
  | cons x rest ih =>
    obtain ⟨k, v⟩ := x
    obtain ⟨hk, hr⟩ := (cellsWf_cons k v rest).mp h
    unfold dropCell
    split
    · exact hr
    · exact (cellsWf_cons k v _).mpr ⟨allAbove_dropCell a hk, ih hr⟩

/-- A completed write keeps the form. -/
theorem State.writeCell_cellsWf (s : State) (a : Nat) (w : StoredWord) (h : cellsWf s.cells = true) :
    cellsWf (s.writeCell a w).cells = true := cellsWf_setCell a w h

/-- A completed read keeps the form. -/
theorem State.readCells_cellsWf (s : State) (a : Nat) (changed : StoredWord) (h : cellsWf s.cells = true) :
    cellsWf (s.readCells a changed).2.cells = true := by
  unfold State.readCells
  split <;> exact cellsWf_setCell _ _ h

/-- The part of a cold reset that breaks off an access keeps the form. -/
theorem State.cellsAfterColdReset_wf (s : State) (h : cellsWf s.cells = true) :
    cellsWf s.cellsAfterColdReset = true := by
  unfold State.cellsAfterColdReset
  split
  · split
    · exact cellsWf_dropCell _ h
    · exact h
  · exact h

/-- After reset no word of the array is listed, which is the form. -/
theorem State.reset_cellsWf : cellsWf State.reset.cells = true := rfl

end Sys2Proof.Machine
end

