-- ==== Sys2Proof/Laws/Endings.lean ====
section
/-! SUPPORT. The end of a grant, the response and the grants in the cases that a proof meets. -/

namespace Sys2Proof.Machine

variable (s : State)

theorem State.settled_of_award_none (h : s.award = none) : s.settled = s := by
  simp [State.settled, h]

theorem State.liveAccess_of_not_abandoned (h : s.port.abandoned = false) : s.liveAccess = s.port.access := by
  simp [State.liveAccess, h]

theorem State.liveAccess_of_abandoned (h : s.port.abandoned = true) : s.liveAccess = none := by
  simp [State.liveAccess, h]

/-- A reset outside a gap finds an access that has begun, and uses no free value. -/
theorem State.begun_of_no_gap (h : s.port.gap = false) :
    s.accessBegun = true ∧ s.freeIndexAfterReset = s.freeIndex := by
  simp [State.accessBegun, State.freeIndexAfterReset, h]

/-- A reset that finds a gap uses one free value (assumption 21). -/
theorem State.begun_of_gap (h : s.port.gap = true) :
    s.accessBegun = Config.laterAccessBegun s.freeIndex ∧ s.freeIndexAfterReset = s.freeIndex + 1 := by
  simp [State.accessBegun, State.freeIndexAfterReset, h]

/-- The port after a warm reset: a FREE one as it was, a held one kept for its access in progress, or FREE where no access
had begun (R40, R59). -/
theorem State.portAfterWarmReset_cases :
    (s.port.holder = .free → s.portAfterWarmReset = s.port) ∧
    (s.port.holder ≠ .free → s.accessBegun = true →
      s.portAfterWarmReset = { s.port with gap := false, abandoned := true }) ∧
    (s.port.holder ≠ .free → s.accessBegun = false → s.portAfterWarmReset = MemoryPort.free) := by
  refine ⟨?_, ?_, ?_⟩ <;> intros <;> simp_all [State.portAfterWarmReset]

/-- A release frees the port and decides (R53). -/
theorem State.release_eq_released : s.release = s.released := rfl

theorem State.arbitrate_eq_decidedIfFree (h : s.award = none) : s.arbitrate = s.decidedIfFree := by
  unfold State.arbitrate State.decidedIfFree
  split <;> apply State.ext <;> simp_all

theorem State.quietCheck_of_not_quiescing (h : s.mode ≠ .quiescing) : s.quietCheck = s := by
  simp [State.quietCheck, h]

theorem State.quietCheck_of_conditions (hm : s.mode = .quiescing) (hc : s.copy = none) (hw : s.writeBacks = []) :
    s.quietCheck = ({ s with mode := .quiet } : State).append .quietReached := by
  simp [State.quietCheck, State.quiesceConditions, hm, hc, hw]

theorem State.quietCheck_of_not_conditions (h : s.copy ≠ none ∨ s.writeBacks ≠ []) : s.quietCheck = s := by
  unfold State.quietCheck State.quiesceConditions
  rcases h with h | h <;> simp [h]

theorem State.resolveAbort_of_none (h : s.copy.all (fun c => !c.abortPending) = true) : s.resolveAbort = s := by
  unfold State.resolveAbort
  split
  · rename_i c hc; simp [hc] at h; simp [h]
  · rfl

theorem State.resolveAbort_of_pending {c : Copy} (h : s.copy = some c) (hp : c.abortPending = true) :
    s.resolveAbort = s.cancelCopy c := by
  simp [State.resolveAbort, h, hp]

theorem State.cancelCopy_eq_aborted (c : Copy) : s.cancelCopy c = s.aborted c := by
  have h : (fun place : Option HealthEntry => place.map fun e =>
      if e.line = c.sourceLine then (if e.state = .moving then e.backToWatch else e) else e) =
      fun place => place.map fun e =>
        if e.line = c.sourceLine ∧ e.state = .moving then { e with state := .watch, deferred := false } else e := by
    funext place
    cases place with
    | none => rfl
    | some e => by_cases hl : e.line = c.sourceLine <;> by_cases hs : e.state = .moving <;>
        simp [hl, hs, HealthEntry.backToWatch]
  simp only [State.cancelCopy, State.aborted, State.dropCopy, State.healthAborted, State.updateHealth, State.setSlot, h]

theorem State.quietCheck_eq_quieted : s.quietCheck = s.quieted := by
  unfold State.quietCheck State.quieted State.quiesceConditions
  simp [Option.isNone_iff_eq_none, List.isEmpty_iff]

/-- The end of a grant, said once: a pending abort, the quiesce conditions, the release (R53, R149, R167). -/
theorem State.endGrant_eq_ended : s.endGrant = s.ended := by
  unfold State.endGrant State.ended State.resolveAbort
  simp only [State.release_eq_released, State.quietCheck_eq_quieted]
  cases s.copy with
  | none => rfl
  | some c => dsimp only; split <;> simp only [State.cancelCopy_eq_aborted]

/-- Where no abort is pending and QUIET is not awaited, the end of a grant is the release alone (R53). -/
theorem State.ended_of_plain (hm : s.mode ≠ .quiescing) (hc : s.copy.all (fun c => !c.abortPending) = true) :
    s.ended = s.released := by
  have hq : s.quieted = s := by simp [State.quieted, hm]
  unfold State.ended
  rw [hq]
  split
  · rename_i c h
    simp [h] at hc
    simp [hc]
  · rfl

/-- With an abort pending the end of a grant makes it first (R149). -/
theorem State.ended_of_pending {c : Copy} (hc : s.copy = some c) (hp : c.abortPending = true) :
    s.ended = (s.aborted c).quieted.released := by
  simp [State.ended, hc, hp]

/-- Without a pending abort the end of a grant looks at the quiesce conditions alone (R167). -/
theorem State.ended_of_not_pending (h : s.copy.all (fun c => !c.abortPending) = true) :
    s.ended = s.quieted.released := by
  unfold State.ended
  split
  · rename_i c hc
    simp [hc] at h
    simp [h]
  · rfl

/-- The response to a cycle on record is the one `State.answered` gives (R15). -/
theorem State.respond_of_record {r : CycleRecord} (h : s.host.record = some r) (o : HostOutcome)
    (hd : Option DataWord) : s.respond o hd = { s with host := s.answered r o hd } := by
  unfold State.respond State.answered
  split
  · cases o <;> simp [h, HostOutcome.isError]
  · rfl

/-- What every grant to an internal requester does, said once (R50, R51). -/
theorem State.grantStep_eq (c : GrantCase) : s.grantStep c =
    { s with
      award := none
      decisionOpen := false
      starvation := 0
      host :=
        if s.host.state = .waiting then { s.host with record := s.host.record.map fun r => r.passOver c }
        else s.host } := by
  unfold State.grantStep State.markPassed State.hostWaiting
  by_cases hw : s.host.state = .waiting <;> simp [hw]

/-- The end of a host grant with its response, said once (R15, R25, R53). -/
theorem State.finishHost_of_record {r : CycleRecord} (h : s.host.record = some r) (o : HostOutcome)
    (hd : Option DataWord) : s.finishHost o hd = ({ s with host := s.answered r o hd } : State).ended := by
  rw [State.finishHost, State.respond_of_record s h, State.endGrant_eq_ended]

/-- A take that follows a release before its grant: the head is taken and the decision is made afresh (R53). -/
theorem execTake_before_decision {a : Award} (ha : s.award = some a) (ho : s.decisionOpen = true)
    (hd : s.takeDue = true) : execTake s = .next s.takeHead.released := by
  simp [execTake, State.takePrecedesDecision, ha, ho, hd, State.release_eq_released]

/-- A take with no decision outstanding (R137, R138). -/
theorem execTake_of_award_none (h : s.award = none) :
    execTake s = .next (if s.takeDue then s.takeHead.arbitrate else s) := by
  simp [execTake, State.takePrecedesDecision, State.settled_of_award_none s h, h]

/-- A report appended to a state whose fields other than the Report Queue's differ: the append and the difference
commute. -/
theorem State.append_congr {s t : State} (r : Report) (hr : t.reports = s.reports) (hs : t.sequence = s.sequence)
    (ha : t.alert = s.alert) (hp : t.patrol.pass = s.patrol.pass)
    (hm : t.settings.alertMask = s.settings.alertMask) :
    (t.append r).reports = (s.append r).reports ∧ (t.append r).sequence = (s.append r).sequence ∧
      (t.append r).alert = (s.append r).alert := by
  unfold State.append
  rw [hr]
  split
  · simp [hr, hs, hp, hm]
  · split
    · simp [hs, ha]
    · split
      · simp [hr, hs, hp, hm]
      · simp [hr, hs, ha]

end Sys2Proof.Machine
end

