-- ==== Sys2Proof/Laws/Commute.lean ====
section
/-! SUPPORT. Reports and health events read neither the Host Port Controller nor the port: they commute with a change of
either. -/

namespace Sys2Proof.Machine

variable (s : State) (h : HostPort) (p : MemoryPort)

theorem State.append_with (r : Report) :
    ({ s with host := h, port := p } : State).append r = { s.append r with host := h, port := p } := by
  unfold State.append
  split
  · rfl
  · split
    · rfl
    · split <;> rfl

theorem State.appendAll_with (rs : List Report) :
    ({ s with host := h, port := p } : State).appendAll rs = { s.appendAll rs with host := h, port := p } := by
  induction rs generalizing s with
  | nil => rfl
  | cons r rest ih =>
    have := ih (s.append r)
    simp only [State.appendAll, List.foldl_cons] at this ⊢
    rw [State.append_with, this]

theorem State.appendForRead_with (own : Report) (table : List Report) :
    ({ s with host := h, port := p } : State).appendForRead own table =
      { s.appendForRead own table with host := h, port := p } := by
  unfold State.appendForRead
  cases table with
  | nil => exact State.append_with s h p own
  | cons r rest =>
    dsimp only
    split
    · rw [← State.append_with, ← State.appendAll_with]
    · rw [← State.appendAll_with, ← State.append_with]

theorem State.recordHealth_with (ev : HealthEvent) :
    ({ s with host := h, port := p } : State).recordHealth ev =
      ({ (s.recordHealth ev).1 with host := h, port := p }, (s.recordHealth ev).2) := by
  have h1 : ({ s with host := h, port := p } : State).healthEntry ev.line = s.healthEntry ev.line := rfl
  have h2 : ({ s with host := h, port := p } : State).placeForNew = s.placeForNew := rfl
  unfold State.recordHealth
  rw [h1, h2]
  split
  · rfl
  · split <;> rfl

theorem State.requestTest_with (ev : HealthEvent) :
    ({ s with host := h, port := p } : State).requestTest ev =
      ({ (s.requestTest ev).1 with host := h, port := p }, (s.requestTest ev).2) := by
  have h1 : ({ s with host := h, port := p } : State).thresholdMet ev.line = s.thresholdMet ev.line := rfl
  have h2 : ({ s with host := h, port := p } : State).uncorrectableMet ev = s.uncorrectableMet ev := rfl
  have h3 : ({ s with host := h, port := p } : State).requestFor ev = s.requestFor ev := rfl
  unfold State.requestTest
  rw [h1, h2, h3]
  split
  · split
    · rename_i home reason _
      have h4 : ({ s with host := h, port := p } : State).intakeAnswer home = s.intakeAnswer home := rfl
      unfold State.requestMigration
      rw [h4]
      split
      · rename_i ha
        simp [State.intake, h4, ha, State.updateHealth]
      · rfl
      · have h5 : ({ s with host := h, port := p } : State).healthEntry ev.line = s.healthEntry ev.line := rfl
        unfold State.deferRequest
        rw [h5]
        split
        · split <;> rfl
        · rfl
    · rfl
  · rfl

theorem State.healthEvent_with (ev : HealthEvent) :
    ({ s with host := h, port := p } : State).healthEvent ev =
      ({ (s.healthEvent ev).1 with host := h, port := p }, (s.healthEvent ev).2) := by
  unfold State.healthEvent
  rw [State.recordHealth_with]
  dsimp only
  rw [State.requestTest_with]

theorem State.correctedRead_with (word : Nat) (cls : ErrorClass) (source : EventSource) :
    ({ s with host := h, port := p } : State).correctedRead word cls source =
      { s.correctedRead word cls source with host := h, port := p } := by
  unfold State.correctedRead
  rw [State.healthEvent_with]
  dsimp only
  rw [State.appendAll_with]

theorem State.uncorrectableRead_with (own : Report) (word : Nat) (cls : ErrorClass) (source : EventSource) :
    ({ s with host := h, port := p } : State).uncorrectableRead own word cls source =
      { s.uncorrectableRead own word cls source with host := h, port := p } := by
  unfold State.uncorrectableRead
  rw [State.healthEvent_with]
  dsimp only
  rw [State.appendForRead_with]

/-! ### The Host Port Controller alone -/

theorem State.append_withHost (r : Report) :
    ({ s with host := h } : State).append r = { s.append r with host := h } := by
  have hc := State.append_with s h s.port r
  rw [show ({ s with host := h } : State) = { s with host := h, port := s.port } from rfl, hc]
  apply State.ext <;> simp

theorem State.correctedRead_withHost (word : Nat) (cls : ErrorClass) (source : EventSource) :
    ({ s with host := h } : State).correctedRead word cls source =
      { s.correctedRead word cls source with host := h } := by
  have hc := State.correctedRead_with s h s.port word cls source
  rw [show ({ s with host := h } : State) = { s with host := h, port := s.port } from rfl, hc]
  apply State.ext <;> simp

theorem State.uncorrectableRead_withHost (own : Report) (word : Nat) (cls : ErrorClass) (source : EventSource) :
    ({ s with host := h } : State).uncorrectableRead own word cls source =
      { s.uncorrectableRead own word cls source with host := h } := by
  have hc := State.uncorrectableRead_with s h s.port own word cls source
  rw [show ({ s with host := h } : State) = { s with host := h, port := s.port } from rfl, hc]
  apply State.ext <;> simp

end Sys2Proof.Machine
end

