-- ==== Sys2Proof/WellFormed.lean ====
section
/-! DEFINITION. Which commands are well formed. The widths of the operands are in their types; one row of the table
speaks of an operand that names nothing, and this is the check. -/

namespace Sys2Proof

/-- A command is the event its row describes: UNKNOWN_COMMAND carries a byte that names no command (R190). WRITE_SETTING
carries any identifier: one that names a setting makes it the same event as that setting's own row (R196). -/
def Instr.wellFormed : Instr → Bool
  | .unknownCommand code => (Machine.commandNamed code).isNone
  | _ => true

end Sys2Proof
end

