-- ==== Sys2Proof/Tests/Slice0.lean ====
section
/-! SUPPORT. Tests. First the checks of well-formedness; then worked examples of the manual, each one step on a small
state, with the values the manual prints; then for every obligation with hypotheses a witness: a concrete state and
operands that meet them together, for each clause. -/

namespace Sys2Proof.Tests

open Sys2Proof.Machine

/-! ### Well-formedness and decoding -/

/-- A byte that names a command is not UNKNOWN_COMMAND's (R190): 01h is IDENTIFY and 3Ch RESET_COLD. -/
theorem test_unknownCommand_refused :
    (Instr.unknownCommand 0x01#8).wellFormed = false ∧ (Instr.unknownCommand 0x3C#8).wellFormed = false ∧
      (Instr.unknownCommand 0x00#8).wellFormed = true ∧ (Instr.unknownCommand 0x0A#8).wellFormed = true := by
  decide

/-- Every identifier is well formed in WRITE_SETTING, those of the settings with rows of their own included (R196, R207). -/
theorem test_writeSetting_wellFormed :
    ∀ id ∈ [0x00#8, 0x01#8, 0x08#8, 0x09#8, 0xFF#8], (Instr.writeSetting id 0#16).wellFormed = true := by
  decide

/-- No row has bits, so no word spells a command, and a state is as before (assumption 2). -/
theorem test_no_word_decodes : decodeTableWord 8 1 = none ∧ State.reset.withFetchWord 8 1 = State.reset := by
  decide

/-! ### Small states -/

/-- The state after a command, if there is one. -/
def after (c : Instr) (s : State) : Option State :=
  match exec c s with
  | .next t => some t
  | .fault _ => none
  | .refused _ => none

/-- A part in NORMAL. -/
def normal : State := { State.reset with mode := .normal }

/-- A part with an access in progress. -/
def busy (s : State) (a : Access) : State :=
  { s with port := { holder := a.holder, access := some a, gap := false, abandoned := false } }

/-- A host cycle's record. -/
def cycle (kind : CycleKind) : CycleRecord :=
  { newRecord 40#22 false 0x5#4 0#32 with kind := kind, word := some 40 }

/-- A part with a host cycle whose grant has this access in progress. -/
def serving (s : State) (kind : CycleKind) (a : Access) : State :=
  busy { s with hstb := true, strobeHeld := true, host := { HostPort.none with state := .accessing, record := some (cycle kind) } } a

/-- A PARTIAL WRITE of word 40 in the gap between its read and its write. -/
def between : State :=
  let s := serving { normal with cells := [(40, 0#39)] } (.partialWrite 7#32) (.hostWrite 40 (encode 7#32))
  { s with port := { s.port with gap := true } }

/-- A part with a frame just begun. -/
def framed (s : State) : State := { s with mcs := true, frame := Frame.begin }

/-- A part with a decision outstanding. -/
def decided (s : State) (which : Requester) (g : GrantCase) : State := { s with award := some ⟨which, g⟩ }

/-- A copy of line 5 into slot 0, at a cursor. -/
def copyAt (cursor : Nat) : Copy :=
  { home := 5, sourceLine := 5, sourceSlot := none, target := 0, cursor := cursor, reason := .command, carried := 0,
    poisoned := 0, abortPending := false }

/-- A part in NORMAL with that copy in flight. -/
def copying (cursor : Nat) : State :=
  { normal with
    copy := some (copyAt cursor)
    slots := normal.slots.set 0 (.migrating 5 (.request .command) none)
    cells := [(40, 0#39)] }

/-- A health entry in WATCH. -/
def entry (line count : Nat) : HealthEntry :=
  { line := line, state := .watch, count := count, uncorrectable := false, deferred := false,
    lastClass := .singleData, lastIndex := 0, lastSource := .patrol, firstPass := 0#16, lastPass := 0#16 }

/-- A table full of entries for lines 0 to 31. -/
def fullTable (state : HealthState) : List (Option HealthEntry) :=
  (List.range 32).map fun i => some { entry i 1 with state := state }

/-- A full migration queue. -/
def fullQueue : List MigrationRequest := (List.range 4).map fun i => { home := 100 + i, reason := .command }

/-- No decision is outstanding, and no warm reset has abandoned the grant. -/
abbrev live (s : State) : Prop := s.award = none ∧ s.port.abandoned = false

/-! ### Worked examples of the manual -/

/-- 1.7: data 2,148,536,353 has check value 21; with data bit 12 inverted the word decodes as SINGLE_DATA. -/
theorem test_code_example :
    generatedCheck 2148536353#32 = 21#7 ∧ syndrome (storeWord 21#7 2148532257#32) = 38#7 ∧
      decode (storeWord 21#7 2148532257#32) =
        { cls := .singleData, data := 2148536353#32, flag := false, repaired := storeWord 21#7 2148536353#32 } := by
  decide

/-- 1.7: the double error, the poison marker, and the marker struck by one further fault. -/
theorem test_code_flagged :
    syndrome (storeWord 21#7 2148532256#32) = 33#7 ∧ (decode (storeWord 21#7 2148532256#32)).cls = .double ∧
      poisonMarker 2148536353#32 = storeWord 106#7 2148536353#32 ∧
      syndrome (storeWord 106#7 1052705#32) = 29#7 ∧ (decode (storeWord 106#7 1052705#32)).cls = .double := by
  decide

/-- 1.5: check bits 0, 1 and 2 inverted read as data bit 0; a word of 39 ones reads MULTI. -/
theorem test_code_limits :
    (decode (storeWord 7#7 0#32)).cls = .singleData ∧ (decode (storeWord 127#7 0xFFFFFFFF#32)).cls = .multi ∧
      (decode 0#39).cls = .clean := by
  decide

/-- 12.7: the patrol's report on word 32,743, and the commit of home line 125 into slot 2. -/
theorem test_report_records :
    ReportRecord.bytes { sequence := 41#16, pass := 7#16, report := .uncorrectable 32743 false .patrol } =
        [0x00#8, 0x29#8, 0x00#8, 0x07#8, 0x22#8, 0x00#8, 0x7F#8, 0xE7#8] ∧
      ReportRecord.bytes { sequence := 312#16, pass := 14#16, report := .migrationDone 125 2 (some 1) 1 1 } =
        [0x01#8, 0x38#8, 0x02#8, 0x01#8, 0x14#8, 0x08#8, 0x00#8, 0x7D#8] := by
  decide

/-- 12.7: the record of slot 2 after that commit. -/
theorem test_slot_record :
    Slot.record (.active 125 (.request .spareFault) 14#16) =
      [0x03#8, 0x00#8, 0x00#8, 0x7D#8, 0x04#8, 0xFF#8, 0x00#8, 0x0E#8] := by
  decide

/-- R94: an entry whose last pass is 65,534 has age 4 when the pass number is 2. -/
theorem test_age_wraps : ({ entry 0 1 with lastPass := 65534#16 } : HealthEntry).age 2#16 = 4 := by
  decide

/-- 9.11, event 7: host line 10, preset to spare line 4,092, is refused while the cursor stands at line 11. -/
theorem test_sweep_refuses_preset_line :
    State.admission
      { State.reset with
        mode := .sweeping
        settings := { Settings.default with memoryLinesLog2 := 12, spareCount := 4 }
        slots := State.reset.slots.set 0 (.active 10 .preset 0#16)
        sweepLine := 11 } 80#22 = .refused .notReady (some 32736) := by
  decide

/-- 9.11, event 5: a FULL WRITE of data 7 to word 6 leaves 7 with check value 1 there, and is answered OKAY. -/
theorem test_full_write_is_held :
    ((after .hostWriteComplete (serving normal (.fullWrite 7#32) (.hostWrite 6 (encode 7#32)))).map fun t =>
        (t.cells, t.host.hrdy, t.host.herr)) = some ([(6, storeWord 1#7 7#32)], true, false) := by
  decide

/-- R105: a take that finds no FREE slot ends with MIGRATION_FAILED. -/
theorem test_take_without_spare :
    ((after .take
        { normal with
          slots := List.replicate 64 .absent
          migrations := [{ home := 5, reason := .command }] }).map fun t =>
      t.reports.map ReportRecord.report) = some [.migrationFailed 5 .poolEmpty] := by
  decide

/-- R53: a take that follows a completion before the grant of its decision has reached the engine before the decision, so that
M is decided on and not P, which ranks below it. One that follows the grant finds the port held by P. -/
theorem test_take_before_decision :
    let s : State :=
      { busy normal (.drainWrite 5 0#39) with
        writeBacks := [{ word := 5, data := 0#32 }]
        migrations := [{ home := 5, reason := .command }]
        patrol := { normal.patrol with debt := 1 } }
    ((after .drainWriteComplete s).bind fun t => (after .take t).map State.award) =
        some (some ⟨.step .copy, .background⟩) ∧
      ((after .drainWriteComplete s).bind fun t => (after .patrolGrant t).bind fun u =>
          (after .take u).map fun v => (v.port.holder, v.copy.isSome)) = some (.step .patrol, true) := by
  decide

/-- R40, R43: a PARTIAL WRITE of word 40 in the gap after its read. The memory port's lines are deasserted, and while no command
comes the write begins and drives them. -/
theorem test_gap_lines :
    between.memoryLinesDriven.mce = false ∧ between.memoryLinesDriven.md = none ∧
      between.whileIdle.memoryLinesDriven.mwe = true ∧
      between.whileIdle.memoryLinesDriven.md = some (encode 7#32) := by
  decide

/-- R40: HRESET in that gap. Where the write has begun since, the port stays held for it; where it has not, the port is FREE.
The word keeps what it held, until the write that has begun completes. -/
theorem test_reset_in_gap :
    ((after .hresetAssert between).map fun t => (t.cells, t.port, t.freeIndex)) =
      some ([(40, 0#39)],
        if Config.laterAccessBegun 0 then { between.port with gap := false, abandoned := true } else MemoryPort.free, 1) := by
  rfl

/-- R42, R40: a cold reset in that gap leaves the word without defined contents only where the write has begun. -/
theorem test_cold_reset_in_gap :
    ((after .poresetAssert between).map fun t => (t.cells, t.port)) =
      some (if Config.laterAccessBegun 0 then [] else [(40, 0#39)], MemoryPort.free) := by
  rfl

/-- R14, R15, R16: HSTB deasserted and asserted again before the response. The response is withdrawn at once, and HSTB found
asserted by the controller that is IDLE again is no strobe. -/
theorem test_strobe_again_before_response :
    let s := serving { normal with cells := [(40, 0#39)] } .read (.hostRead 40)
    ((((after .hstbDeassert s).bind (after (.hostStrobe 0#22 true 0xF#4 7#32))).bind
        (after (.hostReadComplete 0#39))).map fun t => (t.host, t.hstb, t.takesStrobe)) =
      some (HostPort.none, true, false) := by
  decide

/-- R176, R178: a report that meets 15 records becomes a LOST record of count 1. -/
theorem test_lost_record :
    ((State.append
        { normal with reports := List.replicate 15 { sequence := 0#16, pass := 0#16, report := .quietReached } }
        (.healthFull 3)).reports.getLast?.map ReportRecord.report) = some (.lost 1) := by
  decide

/-! ### Witnesses: the block as a whole -/

theorem witness_StepRunsFrontCommand :
    ({ normal with pending := [.identify] } : State).pending = [.identify] ∧ State.reset.pending = [] := by
  decide

theorem witness_DecisionsAreCarriedOut :
    Instr.identify ∉ [Instr.hostGrant, .drainGrant, .patrolGrant, .copyGrant, .sweepGrant] ∧
      Instr.identify ≠ .take ∧ Instr.take ∉ [Instr.hostGrant, .drainGrant, .patrolGrant, .copyGrant, .sweepGrant] ∧
      (decided normal (.step .patrol) .background).decisionOpen = false ∧
      ({ decided normal (.step .patrol) .background with decisionOpen := true } : State).takeDue = false ∧
      (decided normal (.step .patrol) .background).award = some ⟨.step .patrol, .background⟩ := by
  decide

/-- IDENTIFY, on a part with no frame, answers a next state, and is none of the rows that the clauses except. -/
theorem witness_LinesAndQueueFrame : exec .identify normal = .next normal ∧
    (∀ a w e d, Instr.identify ≠ .hostStrobe a w e d) ∧
      Instr.identify ∉ [Instr.hstbDeassert, .hresetAssert, .hresetDeassert, .poresetAssert, .poresetDeassert,
        .frameBegin, .frameEnd, .resetCold] := by
  refine ⟨rfl, ?_, by decide⟩
  intro a w e d h
  cases h

/-- A drain of word 5 completes, and word 6 is another word. -/
theorem witness_ArrayFrame :
    (after .drainWriteComplete (busy normal (.drainWrite 5 0#39))).isSome = true ∧
      (busy normal (.drainWrite 5 0#39)).settled.port.access = some (.drainWrite 5 0#39) ∧
      (Access.drainWrite 5 0#39).word ≠ 6 := by
  decide

theorem witness_SettingsFrame : exec .timebaseTick State.reset = .next State.reset ∧
    (∀ i v, Instr.timebaseTick ≠ .writeSetting i v) ∧ (∀ v, Instr.timebaseTick ≠ .writeSpareCount v) ∧
      (∀ b, Instr.timebaseTick ≠ .msckRisingEdge b) := by
  refine ⟨rfl, ?_, ?_, ?_⟩ <;> intros <;> simp

/-! ### Witnesses: the invariants

A part in NORMAL with a tick waiting: its step advances the timer. -/

/-- The state whose step the invariants' witnesses take. -/
def ticking : State := { normal with pending := [.timebaseTick] }

theorem witness_step : step ticking = .next { normal with patrol := { normal.patrol with timer := 1 } } := by
  rfl

theorem witness_ReportQueueKept : ticking.ReportsSound where
  atMost16 := by decide
  fullEndsInLost := by decide
  noAdjacent := by decide
  numbered := by decide
  counts := by decide
  alertFollows := by decide

theorem witness_ArrayFormKept : ticking.ArraySound := rfl

theorem witness_PatrolBoundsKept : ticking.PatrolSound where
  lineFitted := by decide
  indexInLine := by decide
  debtAtMostLimit := by decide
  restsOutsideNormal := by decide
  timerBelowInterval := by decide
  starvationAtMost16 := by decide

/-- The other premise, the traffic's, is `witness_TrafficKept`. -/
theorem witness_SweepBoundsKept : ticking.SweepSound where
  lineAtMostAll := by decide
  indexInLine := by decide
  lineLeftWhileSweeping := by decide
  stepOnlyWhileSweeping := by decide
  grantOnlyWhileSweeping := by decide

theorem witness_HealthTableKept : ticking.HealthSound where
  places := by decide
  oneEntryPerLine := by decide
  counts := by decide

theorem witness_TrafficKept : ticking.TrafficSound where
  host :=
    { recordWhileHeld := by decide
      readyWhileResponding := by decide
      errorOnlyReady := by decide
      dataOnlyReady := by decide
      respondingUntilWithdrawn := by decide
      strobeHeldByCycle := by decide
      abandonedUnderReset := by decide
      nullWriteNeverWaits := by decide }
  port :=
    { accessUnderGrant := by decide
      freeNotAbandoned := by decide
      awardOnFree := by decide
      decidedWhileFree := by decide
      accessingMeansHost := by decide
      uninitIdle := by decide
      copyModes := by decide
      openOnlyOutstanding := by decide
      gapBeforeHostWrite := by decide }
  queue :=
    { atMost8 := by decide
      oneEntryPerWord := by decide
      emptyUninit := by decide
      emptyQuiet := by decide
      roomForRead := by decide
      roomWhilePassed := by decide
      drainTakesHead := by decide }

theorem witness_MapAndEngineKept : ticking.MapSound where
  slots64 := by decide
  linesRange := by decide
  sparesRange := by decide
  absentAbove := by decide
  oneActivePerHome := by decide
  activeInView := by decide
  migratingIsTarget := by decide
  copySound := by intro c h; cases h
  queueAtMost4 := by decide
  queueHomesDiffer := by decide
  queueInView := by decide
  queueNotInFlight := by intro c h; cases h
  uninitQueueEmpty := by decide

/-! ### Witnesses: the check code, the array and the reports -/

theorem witness_CodeGuarantees : (0 < 39 ∧ 38 < 39 ∧ (0 : Nat) ≠ 38) ∧ (31 < 39 ∧ 32 < 39 ∧ (31 : Nat) ≠ 32) := by
  decide

theorem witness_PoisonMarkers : (decode (poisonMarker 2148536353#32)).cls = .poisoned := by decide

/-- The array's columns run to data bit 31, and the classes' syndromes are met by stored words. -/
theorem witness_EncodedWordsReadClean :
    (31 < 32 ∧ generatedCheck (BitVec.twoPow 32 31) = 98#7) ∧ syndrome (storeWord 98#7 0#32) = 98#7 ∧
      (decode (storeWord 1#7 0#32)).cls = .singleCheck ∧ (decode (storeWord 127#7 0#32)).cls = .poisoned ∧
      (decode (storeWord 100#7 0#32)).cls = .multi ∧ (decode (storeWord 3#7 0#32)).cls = .double := by
  decide

theorem witness_ArrayReadsWhatWasWritten :
    getCell (copying 0).cells 40 = some 0#39 ∧ (busy normal (.hostRead 40)).port.access = some (.hostRead 40) ∧
      (busy normal (.sweepWrite 40 0#39)).port.access = some (.sweepWrite 40 0#39) ∧ normal.port.access = none := by
  decide

theorem witness_ReportIsKeptCountedOrDropped :
    let r : ReportRecord := { sequence := 0#16, pass := 0#16, report := .quietReached }
    let lost : ReportRecord := { sequence := 0#16, pass := 0#16, report := .lost 255 }
    (List.replicate 14 r).length ≤ 14 ∧
      ((List.replicate 15 r).length = 15 ∧ tailIsLost (List.replicate 15 r) = false) ∧
      15 ≤ (List.replicate 15 r ++ [lost]).length ∧ 15 ≤ (List.replicate 14 r ++ [lost]).length := by
  decide

/-! ### Witnesses: host cycles -/

/-- Line 65,503 is the last host line; in SWEEPING the cursor stands one above the line. -/
theorem witness_AdmittedStrobeWaits :
    (normal.award = none ∧ normal.hstb = false ∧ normal.host.state = .idle ∧ normal.hreset = false ∧
      normal.poreset = false ∧ normal.mode ≠ .uninit ∧ hostLine (BitVec.ofNat 22 (65503 * 8)) < normal.poolBase ∧
      (0x8#4 : BitVec 4) ≠ 0#4 ∧ normal.decision = none) ∧
    (let s : State := { normal with mode := .sweeping, sweepLine := 6, port := (busy normal (.sweepWrite 48 0#39)).port }
     s.translate (hostLine 40#22) < s.sweepLine ∧ s.port.holder ≠ .free) := by
  decide

/-- The first line of the pool is out of range; in SWEEPING the line at the cursor is not ready. -/
theorem witness_RefusedStrobeAnswers :
    State.reset.mode = .uninit ∧ normal.poolBase ≤ hostLine (BitVec.ofNat 22 (65504 * 8)) ∧
      (let s : State := { normal with mode := .sweeping, sweepLine := 5 }
       hostLine 40#22 < s.poolBase ∧ s.sweepLine ≤ s.translate (hostLine 40#22)) := by
  decide

theorem witness_NullWriteCompletes :
    normal.award = none ∧ normal.hstb = false ∧ normal.host.state = .idle ∧ normal.hreset = false ∧
      normal.poreset = false ∧ normal.mode ≠ .uninit ∧ hostLine 40#22 < normal.poolBase ∧
      normal.mode ≠ .sweeping := by
  decide

theorem witness_LinesThatStartNothing :
    ({ normal with hstb := true } : State).hstb = true ∧
      ({ normal with host := { HostPort.none with state := .responding } } : State).host.state = .responding ∧
      ({ normal with host := HostPort.abandon } : State).host.state = .abandoned ∧
      ({ normal with hreset := true } : State).hreset = true ∧ ({ normal with poreset := true } : State).poreset = true := by
  decide

/-- A home line whose ACTIVE slot is the last, which alone has it, and a home line that no slot has. -/
theorem witness_HostGrantTranslates :
    let s : State := { State.reset with slots := State.reset.slots.set 63 (.active 5 .preset 0#16) }
    s.slots[63]? = some (.active 5 .preset 0#16) ∧ (s.slots.filterMap Slot.activeHome = [5]) ∧
      State.reset.slots.filterMap Slot.activeHome = [] := by
  decide

/-- At a starvation counter of 15 and of 16, with a cycle that is no NULL WRITE. -/
theorem witness_HostGrantBegins :
    let s (n : Nat) : State :=
      { decided { normal with host := { HostPort.none with state := .waiting, record := some (cycle .read) } } .host
          .hostWaiting with starvation := n }
    (s 15).award = some ⟨.host, .hostWaiting⟩ ∧ (s 16).host.record = some (cycle .read) ∧
      ∀ d, (cycle .read).kind ≠ .nullWrite d := by
  refine ⟨by decide, by decide, ?_⟩
  intro d h
  cases h

/-- A READ of word 40, which holds the encoding of 0. -/
def reading : State := serving { normal with cells := [(40, 0#39)] } .read (.hostRead 40)

theorem witness_CleanReadAnswers :
    live reading ∧ reading.port.access = some (.hostRead 40) ∧ reading.host.record = some (cycle .read) ∧
      (decode (reading.readCells 40 0#39).1).cls = .clean := by
  decide

theorem witness_PoisonedReadRefused :
    live reading ∧ reading.port.access = some (.hostRead 40) ∧ reading.host.record = some (cycle .read) ∧
      (decode (reading.readCells 40 (poisonMarker 0#32)).1).cls = .poisoned := by
  decide

theorem witness_CorrectedReadQueuesWriteBack :
    live reading ∧ reading.port.access = some (.hostRead 40) ∧ reading.host.record = some (cycle .read) ∧
      reading.mode ≠ .quiet ∧ (cycle .read).grantedInQuiet = false ∧
      (decode (reading.readCells 40 1#39).1).cls.error = some .singleData ∧
      (decode (reading.readCells 40 (BitVec.twoPow 39 38)).1).cls.error = some .singleCheck ∧
      ErrorClass.singleData.corrected = true ∧ ErrorClass.singleCheck.corrected = true := by
  decide

theorem witness_UncorrectableReadReported :
    live reading ∧ reading.port.access = some (.hostRead 40) ∧ reading.host.record = some (cycle .read) ∧
      (decode (reading.readCells 40 3#39).1).cls.error = some .double ∧
      (decode (reading.readCells 40 (BitVec.allOnes 39)).1).cls.error = some .multi ∧
      ErrorClass.double.corrected = false ∧ ErrorClass.multi.corrected = false := by
  decide

theorem witness_QuietReadRepairsInline :
    let quiet : State := { reading with mode := .quiet }
    let late : CycleRecord := { cycle .read with grantedInQuiet := true }
    let swept : State := { reading with mode := .sweeping, host := { reading.host with record := some late } }
    let repairing := serving { normal with mode := .quiet } .read (.inlineWriteBack 40 0#39)
    (live quiet ∧ quiet.port.access = some (.hostRead 40) ∧ quiet.host.record = some (cycle .read) ∧
      quiet.mode = .quiet ∧ (decode (quiet.readCells 40 1#39).1).cls.error = some .singleData ∧
      ErrorClass.singleData.corrected = true) ∧
    (live swept ∧ swept.port.access = some (.hostRead 40) ∧ swept.host.record = some late ∧
      late.grantedInQuiet = true ∧ swept.mode = .sweeping) ∧
    (live repairing ∧ repairing.port.access = some (.inlineWriteBack 40 0#39) ∧
      repairing.host.record = some (cycle .read)) := by
  decide

/-- A PARTIAL WRITE of word 40 in its read. -/
def merging : State := serving { normal with cells := [(40, 0#39)] } (.partialWrite 7#32) (.mergeRead 40)

theorem witness_MergeIsMade :
    live merging ∧ merging.port.access = some (.mergeRead 40) ∧
      merging.host.record = some (cycle (.partialWrite 7#32)) ∧ (cycle (.partialWrite 7#32)).kind = .partialWrite 7#32 ∧
      (decode (merging.readCells 40 0#39).1).flag = false ∧ (decode (merging.readCells 40 1#39).1).flag = false := by
  decide

theorem witness_MergeIsRefused :
    live merging ∧ merging.port.access = some (.mergeRead 40) ∧
      merging.host.record = some (cycle (.partialWrite 7#32)) ∧ (cycle (.partialWrite 7#32)).kind = .partialWrite 7#32 ∧
      (decode (merging.readCells 40 3#39).1).flag = true ∧
      (decode (merging.readCells 40 (BitVec.allOnes 39)).1).flag = true ∧
      (decode (merging.readCells 40 (poisonMarker 0#32)).1).flag = true := by
  decide

/-- A write of word 42 of the source line: with the cursor at 2 the word is not yet copied, and at 3 it is; and the second
write, to the target. -/
theorem witness_HostWriteEnds :
    let s (n : Nat) := serving (copying n) (.fullWrite 7#32) (.hostWrite 42 0#39)
    let second := serving (copying 3) (.fullWrite 7#32) (.targetWrite 524034 0#39)
    (live (s 2) ∧ (s 2).host.record = some (cycle (.fullWrite 7#32)) ∧
      (s 2).port.access = some (.hostWrite 42 0#39) ∧ (s 2).copy = some (copyAt 2) ∧
      ¬ (42 / 8 = (copyAt 2).sourceLine ∧ 42 % 8 < (copyAt 2).cursor)) ∧
    ((s 3).copy = some (copyAt 3) ∧ 42 / 8 = (copyAt 3).sourceLine ∧ 42 % 8 < (copyAt 3).cursor) ∧
    (live second ∧ second.host.record = some (cycle (.fullWrite 7#32)) ∧
      second.port.access = some (.targetWrite 524034 0#39)) := by
  decide

theorem witness_AbandonedAccessEnds :
    let s : State := { normal with port := { holder := .host, access := some (.hostWrite 40 0#39), gap := false, abandoned := true } }
    s.award = none ∧ s.port.abandoned = true ∧ s.port.access = some (.hostWrite 40 0#39) ∧ s.mode ≠ .quiescing ∧
      s.copy.all (fun c => !c.abortPending) = true := by
  decide

/-! ### Witnesses: the arbiter and the internal steps -/

/-- A state for each of the five cases and for none: a full queue; debt at the limit; the counter at 16; a waiting cycle;
a queued entry; nothing. -/
theorem witness_DecisionFollowsTheCases :
    let waiting : HostPort := { HostPort.none with state := .waiting, record := some (cycle .read) }
    let queue (n : Nat) : List WriteBack := (List.range n).map fun i => { word := i, data := 0#32 }
    let limit : State := { normal with patrol := { normal.patrol with debt := 8 } }
    State.decision { normal with writeBacks := queue 8, host := waiting } = some ⟨.step .drain, .urgentDrain⟩ ∧
      State.decision { limit with writeBacks := queue 7, host := waiting } = some ⟨.step .patrol, .urgentPatrol⟩ ∧
      State.decision { normal with writeBacks := queue 7, host := waiting, starvation := 16 } =
        some ⟨.step .drain, .starvation⟩ ∧
      State.decision { normal with writeBacks := queue 7, host := waiting, starvation := 15 } =
        some ⟨.host, .hostWaiting⟩ ∧
      State.decision { normal with writeBacks := queue 1 } = some ⟨.step .drain, .background⟩ ∧
      State.decision normal = none := by
  decide

/-- Each step's decision, and a waiting cycle whose flags are clear. -/
theorem witness_StepGrantsBegin :
    let waiting : HostPort := { HostPort.none with state := .waiting, record := some (cycle .read) }
    let passed : State := { normal with host := waiting, writeBacks := [{ word := 5, data := 0#32 }] }
    ((decided passed (.step .drain) .urgentDrain).award = some ⟨.step .drain, .urgentDrain⟩ ∧
      passed.host.state = .waiting ∧ passed.host.record = some (cycle .read) ∧ (cycle .read).writeBackPass = false) ∧
    let queued : State := { normal with writeBacks := [{ word := 5, data := 0#32 }] }
    ((decided queued (.step .drain) .background).award = some ⟨.step .drain, .background⟩ ∧
      (decided queued (.step .drain) .background).writeBacks = { word := 5, data := 0#32 } :: []) ∧
    (decided normal (.step .patrol) .background).award = some ⟨.step .patrol, .background⟩ ∧
    ((decided (copying 0) (.step .copy) .background).award = some ⟨.step .copy, .background⟩ ∧
      (decided (copying 0) (.step .copy) .background).copy = some (copyAt 0)) ∧
    (decided { normal with mode := .sweeping } (.step .sweep) .background).award =
      some ⟨.step .sweep, .background⟩ := by
  decide

/-- Nothing is due in NORMAL with no access in progress, nor with another live access, nor after a warm reset met one; and
no management row in a frame that carries another command, or in none. -/
theorem witness_RowsNotDueChangeNothing :
    let left : State := { normal with port := { holder := .host, access := some (.hostRead 40), gap := false, abandoned := true } }
    (live normal ∧ normal.port.access = none ∧ normal.migrations = [] ∧
      normal.patrol.timer + 1 ≠ normal.settings.patrolInterval) ∧
    (left.award = none ∧ left.port.abandoned = true) ∧
    (live reading ∧ reading.port.access = some (.hostRead 40) ∧
      Access.hostRead 40 ≠ .mergeRead 40 ∧ Access.hostRead 40 ≠ .copyRead 40) ∧
    (normal.frame.awaits [commandCode .identify] = false ∧ ([] : List Byte).length = argumentCount .identify ∧
      (framed normal).frame.awaits [commandCode .identify] = true ∧
      (Frame.executed 0x01#8 [] [0x01#8]).awaits (0x04#8 :: 0x01#8 :: bigEndian 2 16) = false ∧
      commandNamed 0x01#8 ≠ none ∧ normal.frame.awaits [0x00#8] = false ∧ normal.mcs = false ∧
      (Frame.executed 0x01#8 [] [0x01#8]).awaits [0x3C#8] = false) ∧
    (Instr.hostGrant, Requester.host) ∈ [(Instr.hostGrant, Requester.host), (.drainGrant, .step .drain)] ∧
    ((decided normal (.step .patrol) .background).award.all fun a => a.grantee != .host) = true := by
  decide

theorem witness_DrainWriteEnds :
    let s := busy { normal with writeBacks := [{ word := 5, data := 0#32 }] } (.drainWrite 5 0#39)
    live s ∧ s.port.access = some (.drainWrite 5 0#39) ∧ s.writeBacks = { word := 5, data := 0#32 } :: [] := by
  decide

/-- The cursor in the middle of a line and at its end, and line 1 of record next after line 0. -/
theorem witness_CursorFindsNextLineOfRecord :
    let s : State := { normal with patrol := { normal.patrol with index := 7 } }
    normal.patrol.index < 7 ∧ s.patrol.index = 7 ∧ s.patrol.line < s.memoryLines ∧ 1 < s.memoryLines ∧
      65503 < s.poolBase ∧ s.poolBase ≤ 65504 ∧
      s.ofRecord 1 = true ∧ s.patrol.line < 1 ∧ ∀ m, s.patrol.line < m → m < 1 → s.ofRecord m = false := by
  refine ⟨by decide, by decide, by decide, by decide, by decide, by decide, by decide, by decide, ?_⟩
  intro m h0 h1
  have : 0 < m := h0
  omega

/-- From a line whose next line is an unused spare the search passes over it: line 65,504 is not of record. -/
theorem witness_CursorPassesSpare :
    normal.ofRecord 65503 = true ∧ normal.ofRecord 65504 = false ∧ normal.ofRecord 65535 = false := by
  decide

/-- The last line of record of an array without a pool is its last line, and the search from it wraps. -/
theorem witness_CursorWraps :
    let s : State :=
      { normal with
        settings := { normal.settings with memoryLinesLog2 := 12, spareCount := 0 }
        patrol := { normal.patrol with line := 4095 } }
    s.patrol.line < s.memoryLines ∧ s.ofRecord 0 = true ∧ 0 ≤ s.patrol.line ∧
      ∀ m, m < s.memoryLines → s.patrol.line < m ∨ m < 0 → s.ofRecord m = false := by
  refine ⟨by decide, by decide, by decide, ?_⟩
  intro m hm h
  have : m < 4096 := hm
  rcases h with h | h
  · have : 4095 < m := h
    omega
  · omega

theorem witness_PatrolStepEnds :
    let s := busy { normal with cells := [(40, 0#39)] } (.patrolRead 40)
    let writing := busy normal (.patrolWrite 40 0#39)
    (live s ∧ s.port.access = some (.patrolRead 40) ∧ (decode (s.readCells 40 0#39).1).cls = .clean ∧
      (decode (s.readCells 40 (poisonMarker 0#32)).1).cls = .poisoned ∧
      (decode (s.readCells 40 1#39).1).cls.error = some .singleData ∧ ErrorClass.singleData.corrected = true ∧
      (decode (s.readCells 40 3#39).1).cls.error = some .double ∧ ErrorClass.double.corrected = false) ∧
    (live writing ∧ writing.port.access = some (.patrolWrite 40 0#39)) := by
  decide

/-- A take of line 5 with slot 0 FREE, with slot 1 the lowest FREE one, and with no slot FREE; and one that finds a release's
decision outstanding. -/
theorem witness_TakeOutcomes :
    let s : State := { normal with migrations := [{ home := 5, reason := .command }] }
    let first : State := { s with slots := s.slots.set 0 (.active 9 .preset 0#16) }
    let none : State := { s with slots := List.replicate 64 .absent }
    (s.award = Option.none ∧ s.copy = Option.none ∧ s.mode = .normal ∧
      s.migrations = { home := 5, reason := .command } :: []) ∧
    (s.slots[0]? = some .free ∧ first.slots[1]? = some .free ∧ ∀ j < 1, first.slots[j]? ≠ some Slot.free) ∧
    (∀ j < 64, none.slots[j]? ≠ some Slot.free) ∧ none.slots.length = 64 ∧
    (let open' : State := { decided s (.step .patrol) .background with decisionOpen := true }
     open'.decisionOpen = true ∧ open'.award ≠ Option.none ∧ open'.copy = Option.none ∧ open'.mode = .normal) := by
  decide

theorem witness_CopyStepReads :
    let s := busy (copying 0) (.copyRead 40)
    live s ∧ s.port.access = some (.copyRead 40) ∧ s.copy = some (copyAt 0) := by
  decide

/-- At cursor 6 the copy goes on, and at 7 it commits; slot 1 may stand to be replaced. -/
theorem witness_CopyStepEnds :
    let s (n : Nat) := busy (copying n) (.copyWrite 524032 0#39 .clean)
    live (s 6) ∧ (s 6).port.access = some (.copyWrite 524032 0#39 .clean) ∧ (s 6).copy = some (copyAt 6) ∧
      (copyAt 6).cursor < 7 ∧ (copyAt 6).abortPending = false ∧ (s 6).mode ≠ .quiescing ∧
      live (s 7) ∧ (s 7).port.access = some (.copyWrite 524032 0#39 .clean) ∧ (s 7).copy = some (copyAt 7) ∧
      (copyAt 7).cursor = 7 ∧ (copyAt 7).abortPending = false ∧ (s 7).mode ≠ .quiescing ∧
      (s 7).slots[(copyAt 7).target]? = some (.migrating 5 (.request .command) none) := by
  decide

theorem witness_CopyReplaces :
    let c : Copy := { copyAt 7 with sourceSlot := some 1, sourceLine := 65505 }
    let s : State :=
      { busy normal (.copyWrite 524032 0#39 .clean) with
        copy := some c
        slots := (normal.slots.set 0 (.migrating 5 (.request .command) (some 1))).set 1 (.active 5 .preset 0#16) }
    live s ∧ s.port.access = some (.copyWrite 524032 0#39 .clean) ∧ s.copy = some c ∧ c.abortPending = false ∧
      s.mode ≠ .quiescing ∧ c.cursor = 7 ∧ c.sourceSlot = some 1 ∧
      s.slots[c.target]? = some (.migrating c.home (.request c.reason) c.sourceSlot) ∧
      s.slots[1]? = some (.active c.home .preset 0#16) := by
  decide

/-- Word 7 of line 4,094 and of line 4,095 of a 4,096-line array. -/
theorem witness_SweepStepEnds :
    let s (line : Nat) : State :=
      { busy normal (.sweepWrite (line * 8 + 7) 0#39) with
        mode := .sweeping
        settings := { normal.settings with memoryLinesLog2 := 12 }
        sweepLine := line
        sweepIndex := 7 }
    live (s 4094) ∧ (s 4094).port.access = some (.sweepWrite 32759 0#39) ∧
      (s 4094).sweepIndex = 7 ∧ (s 4094).sweepLine + 1 < (s 4094).memoryLines ∧
      live (s 4095) ∧ (s 4095).port.access = some (.sweepWrite 32767 0#39) ∧
      (s 4095).sweepIndex = 7 ∧ (s 4095).sweepLine + 1 = (s 4095).memoryLines ∧
      ({ s 4095 with sweepIndex := 6 } : State).sweepIndex < 7 := by
  decide

/-- An abort pending at a copy step, at a host grant's every last access, and at an access that a warm reset abandoned; in
NORMAL and in QUIESCING. -/
theorem witness_PendingAbortIsMade :
    let c : Copy := { copyAt 3 with abortPending := true }
    let s : State := { copying 3 with copy := some c }
    let read := serving s .read (.hostRead 40)
    let merge := serving s (.partialWrite 7#32) (.mergeRead 40)
    let write (word : Nat) := serving s (.fullWrite 7#32) (.hostWrite word 0#39)
    let left : State := { s with port := { holder := .step .copy, access := some (.copyRead 40), gap := false, abandoned := true } }
    (live s ∧ s.copy = some c ∧ c.abortPending = true ∧ ({ s with mode := .quiescing } : State).writeBacks = [] ∧
      (busy s (.copyWrite 524035 0#39 .clean)).port.access = some (.copyWrite 524035 0#39 .clean)) ∧
    (live read ∧ read.host.record = some (cycle .read) ∧ read.port.access = some (.hostRead 40) ∧
      (cycle .read).grantedInQuiet = false ∧ read.mode ≠ .quiet ∧
      (decode (read.readCells 40 0#39).1).cls = .clean ∧ (decode (read.readCells 40 1#39).1).cls.error = some .singleData ∧
      (decode (read.readCells 40 3#39).1).cls.error = some .double ∧
      (decode (read.readCells 40 (poisonMarker 0#32)).1).cls = .poisoned) ∧
    (live merge ∧ merge.host.record = some (cycle (.partialWrite 7#32)) ∧ merge.port.access = some (.mergeRead 40) ∧
      (decode (merge.readCells 40 3#39).1).cls.error = some .double ∧
      (decode (merge.readCells 40 (poisonMarker 0#32)).1).cls = .poisoned) ∧
    (live (write 43) ∧ (write 43).port.access = some (.hostWrite 43 0#39) ∧
      ¬ (43 / 8 = c.sourceLine ∧ 43 % 8 < c.cursor) ∧ 42 % 8 < c.cursor ∧
      (serving s (.fullWrite 7#32) (.targetWrite 524034 0#39)).port.access = some (.targetWrite 524034 0#39) ∧
      (serving s .read (.inlineWriteBack 40 0#39)).port.access = some (.inlineWriteBack 40 0#39)) ∧
    (left.award = none ∧ left.port.abandoned = true ∧ left.port.access = some (.copyRead 40) ∧ left.copy = some c) := by
  decide

/-- R59, R148, R149: a warm reset leaves a copy step running; a request is taken behind it; CANCEL leaves its abort pending,
because the port is held by a copy step; and the abandoned access's completion makes it. -/
theorem test_abort_after_warm_reset :
    let left : State := { copying 3 with port := { holder := .step .copy, access := some (.copyRead 43), gap := false, abandoned := true } }
    ((after (.cancel 5#24) (framed left)).bind fun t => (after .abandonedAccessComplete t).map fun u =>
        (t.copy.any Copy.abortPending, u.copy.isSome, u.reports.map ReportRecord.report)) =
      some (true, false, [.migrationFailed 5 .cancelled]) := by
  decide

/-- QUIESCING at each of R167's events: a drain of the last entry, a host write and a patrol write that supersede it, and a
commit with the source a home line or a spare; and with a condition still open. -/
theorem witness_QuietIsReached :
    let queued : State := { normal with mode := .quiescing, writeBacks := [{ word := 5, data := 0#32 }] }
    let drained := busy queued (.drainWrite 5 0#39)
    let written := serving queued (.fullWrite 7#32) (.hostWrite 5 0#39)
    let patrolled := busy queued (.patrolWrite 5 0#39)
    let copied := busy { copying 7 with mode := .quiescing } (.copyWrite 524039 0#39 .clean)
    let c : Copy := { copyAt 7 with sourceSlot := some 1, sourceLine := 65505 }
    let replaced : State :=
      { busy { normal with mode := .quiescing } (.copyWrite 524039 0#39 .singleData) with
        copy := some c
        slots := (normal.slots.set 0 (.migrating 5 (.request .command) (some 1))).set 1 (.active 5 .preset 0#16) }
    (live queued ∧ queued.mode = .quiescing ∧ queued.copy = none) ∧
    (live drained ∧ drained.port.access = some (.drainWrite 5 0#39) ∧
      drained.writeBacks = { word := 5, data := 0#32 } :: []) ∧
    (live written ∧ written.port.access = some (.hostWrite 5 0#39) ∧
      written.host.record = some (cycle (.fullWrite 7#32)) ∧ written.copy = none ∧
      (written.writeBacks.filter fun w => w.word != 5) = []) ∧
    (live patrolled ∧ patrolled.port.access = some (.patrolWrite 5 0#39)) ∧
    (live copied ∧ copied.mode = .quiescing ∧ copied.port.access = some (.copyWrite 524039 0#39 .clean) ∧
      copied.copy = some (copyAt 7) ∧ (copyAt 7).cursor = 7 ∧ (copyAt 7).abortPending = false ∧
      (copyAt 7).sourceSlot = none ∧ copied.slots[0]? = some (.migrating 5 (.request .command) none)) ∧
    (live replaced ∧ replaced.mode = .quiescing ∧ replaced.copy = some c ∧ c.abortPending = false ∧ c.cursor = 7 ∧
      replaced.slots[0]? = some (.migrating 5 (.request .command) (some 1)) ∧
      replaced.slots[1]? = some (.active 5 .preset 0#16)) := by
  decide

/-! ### Witnesses: health events, time and resets -/

/-- A table with an entry for line 3 at count 255; an empty table; a full table of WATCH entries of equal count and age,
where place 0 is the victim; a full table of UNREPAIRABLE entries. -/
theorem witness_HealthEventsAreRecorded :
    let listed : State := { normal with health := some (entry 3 255) :: List.replicate 31 none }
    listed.health[0]? = some (some (entry 3 255)) ∧ listed.healthLines.Nodup ∧ normal.health[0]? = some none ∧
      (fullTable .watch)[0]? = some (some (entry 0 1)) ∧ (fullTable .watch)[31]? ≠ some none ∧
      (fullTable .unrepairable)[0]? = some (some { entry 0 1 with state := .unrepairable }) := by
  decide

/-- A corrected event on line 3: below the threshold, at it, and with the queue full; and an uncorrectable event on a line
without an entry in a full table. -/
theorem witness_MigrationIsRequested :
    let ev : HealthEvent := { line := 3, index := 0, cls := .singleData, source := .host }
    let bad : HealthEvent := { line := 65503, index := 0, cls := .double, source := .host }
    let s (n : Nat) : State := { normal with health := some (entry 3 n) :: List.replicate 31 none }
    let full : State := { normal with health := fullTable .unrepairable, migrations := fullQueue }
    ((s 2).recordHealth ev).1.healthEntry 3 = some { entry 3 3 with lastSource := .host } ∧
      ((s 3).recordHealth ev).1.healthEntry 3 = some { entry 3 4 with lastSource := .host } ∧
      (s 3).settings.migrateThreshold = 4 ∧ 3 ∉ (s 3).migrations.map MigrationRequest.home ∧
      (full.recordHealth bad).1.healthEntry 65503 = none ∧ bad.cls.corrected = false ∧
      full.settings.migrateOnUncorrectable = true ∧ 4 ≤ full.migrations.length ∧ bad.line < full.poolBase ∧
      ev = { line := 24 / 8, index := 24 % 8, cls := .singleData, source := .host } ∧
      (normal.healthEvent ev).2 = [.newWeakLine 3 0 false .host] ∧ ((s 2).healthEvent ev).2 = [] := by
  decide

/-- The timer at 62 and at 63 of an interval of 64, with debt at 7 and at 8 of a limit of 8. -/
theorem witness_TicksCount :
    let s (timer debt : Nat) : State := { normal with patrol := { normal.patrol with timer := timer, debt := debt } }
    State.reset.mode ≠ .normal ∧ (s 62 0).patrol.timer + 1 ≠ (s 62 0).settings.patrolInterval ∧
      (s 63 7).patrol.timer + 1 = (s 63 7).settings.patrolInterval ∧
      (s 63 7).patrol.debt < (s 63 7).settings.debtLimit ∧ ¬ (s 63 8).patrol.debt < (s 63 8).settings.debtLimit := by
  decide

/-- A port FREE, held by a step, and in the gap of a host grant; and QUIESCING. -/
theorem witness_WarmResetClears :
    ((copying 3).award = none ∧ (copying 3).hreset = false ∧ (copying 3).poreset = false ∧
      (copying 3).port.holder = .free ∧ (copying 3).port.gap = false ∧
      (busy (copying 3) (.copyRead 40)).port.holder ≠ .free ∧
      ({ copying 3 with mode := .quiescing } : State).mode = .quiescing) ∧
    (live between ∧ between.hreset = false ∧ between.poreset = false ∧ between.port.holder ≠ .free ∧
      between.port.gap = true) := by
  decide

theorem witness_ColdResetClears :
    let s := framed (busy (copying 3) (.copyRead 40))
    let formed (state : FrameState) : State :=
      { s with frame := { Frame.executed 0x3C#8 [] [0x01#8] with state := state } }
    (s.award = none ∧ cellsWf s.cells = true ∧ s.port.gap = false ∧ s.mcs = true ∧ s.frame.awaits [0x3C#8] = true) ∧
    (∀ state ∈ [FrameState.response, .trailing], (formed state).award = none ∧ (formed state).mcs = true ∧
      (formed state).frame.command = 0x3C#8 ∧ (formed state).frame.state = state) ∧
    (live between ∧ cellsWf between.cells = true ∧ between.port.gap = true) := by
  decide

/-! ### Witnesses: the management port -/

theorem witness_FramesBeginAndEnd :
    normal.mcs = false ∧ normal.poreset = false ∧ (framed normal).mcs = true ∧ (framed normal).frame.command ≠ 0x3C#8 := by
  decide

/-- A byte in its last bit: 03h, which takes an argument; an argument of a WRITE_SETTING; a response; a trailing byte. -/
theorem witness_ClockEdgesCount :
    let f : Frame := { Frame.begin with bitCount := 7, bits := 0x01#8 }
    f.state = .command ∧ f.bitCount = 7 ∧ f.shiftIn true = 0x03#8 ∧ 1 ≤ argumentsAfter 0x03#8 ∧
      ({ f with state := .arguments, command := 0x04#8, args := [0x01#8] } : Frame).args.length + 1 <
        argumentsAfter 0x04#8 ∧
      (Frame.executed 0x01#8 [] [0x01#8]).bitCount < 7 ∧ normal.frame.state = .idle ∧
      (Frame.executed 0x01#8 [] [0x01#8]).state = .response ∧
      (Frame.executed 0x01#8 [] [0x01#8]).response[0]? = some 0x01#8 := by
  decide

theorem witness_BitsMakeCommands :
    Frame.begin.awaits [0x04#8, 0x01#8, 0x00#8, 0x10#8] = true ∧ (framed normal).award = none ∧ (framed normal).mcs = true ∧ (framed normal).frame = Frame.begin ∧
      [0x01#8, 0x00#8, 0x10#8].length = argumentCount .writeSetting ∧ commandNamed 0x00#8 = none := by
  decide

/-- Every row of the management port meets a frame just begun, and one in which its last bit alone is still to come: of
IDENTIFY's byte here, and of the last argument byte of READ_SETTING 08h. -/
theorem witness_frames_await :
    (Frame.begin.awaits [0x01#8] = true) ∧ Frame.begin.awaits [0x03#8, 0x08#8] = true ∧
      ({ Frame.begin with bitCount := 7, bits := 0x00#8 } : Frame).awaits [0x01#8] = true ∧
      ({ Frame.begin with state := .arguments, command := 0x03#8, bitCount := 7, bits := 0x04#8 } : Frame).awaits
        [0x03#8, 0x08#8] = true := by
  decide

theorem witness_ReadCommandsAnswer :
    (framed normal).award = none ∧ Frame.begin.awaits [0x02#8] = true ∧ Frame.begin.awaits [0x05#8, 0x3F#8] = true ∧
      Frame.begin.awaits [0x06#8, 0x1F#8] = true ∧ Frame.begin.awaits [0x07#8, 0x03#8] = true ∧
      Frame.begin.awaits [0x08#8] = true ∧ Frame.begin.awaits [0x00#8] = true ∧ normal.slots[63]? = some .absent ∧
      normal.health[31]? = some none ∧ normal.slots.length = 64 ∧ normal.health.length = 32 ∧
      commandNamed 0x00#8 = none := by
  decide

/-- The writes' bytes, at the values on either side of each range's end. -/
theorem witness_SettingsAreWritten :
    (∀ id ∈ [0x00#8, 0x01#8, 0x02#8, 0x03#8, 0x04#8, 0x05#8, 0x06#8, 0x07#8, 0x08#8, 0x09#8, 0xFF#8],
      ∀ n ∈ [0, 1, 2, 15, 16, 255, 256, 1023, 1024, 65535],
        Frame.begin.awaits (0x04#8 :: id :: bigEndian 2 n) = true) ∧ (framed normal).award = none := by
  decide

/-- In UNINIT, with slot 3 ACTIVE for line 4,064: MEMORY_LINES_LOG2 19 fits and 12 does not, and SPARE_COUNT 4 fits and 3
does not. -/
theorem witness_PoolSettingsAreWritten :
    let s : State := { State.reset with slots := State.reset.slots.set 3 (.active 4064 .preset 0#16) }
    s.mode = .uninit ∧ s.settings.spareCount < 2 ^ 19 ∧ s.slots[3]? = some (.active 4064 .preset 0#16) ∧
      2 ^ 12 - s.settings.spareCount ≤ 4064 ∧ ¬ 2 ^ 19 - s.settings.spareCount ≤ 4064 ∧
      Frame.begin.awaits (0x04#8 :: 0x01#8 :: bigEndian 2 19) = true ∧
      Frame.begin.awaits (0x04#8 :: 0x02#8 :: bigEndian 2 4) = true := by
  decide

/-- The last host line and the first line of the pool; slots 63 and 64; a mapped line. -/
theorem witness_PresetsAndUnmaps :
    let s : State := { State.reset with slots := State.reset.slots.set 0 (.active 10 .preset 0#16) }
    (65503 < s.poolBase ∧ s.poolBase ≤ 65504 ∧ s.slots[0]? = some (.active 10 .preset 0#16)) ∧
      s.slots[1]? = some .free ∧ s.slots.length = 64 ∧
      Frame.begin.awaits (0x10#8 :: bigEndian 3 65503) = true ∧ Frame.begin.awaits [0x11#8, 0x40#8] = true := by
  decide

theorem witness_RequestsAndCancels :
    Frame.begin.awaits (0x12#8 :: bigEndian 3 5) = true ∧ Frame.begin.awaits (0x13#8 :: bigEndian 3 5) = true ∧
      5 < normal.poolBase ∧ 5 ∉ normal.migrations.map MigrationRequest.home ∧
      5 ∈ ((copying 0).copy.map Copy.home).toList ∧ (copying 0).port.holder ≠ .host ∧
      (busy (copying 0) (.copyRead 40)).port.holder = .step .copy ∧ 100 ∈ fullQueue.map MigrationRequest.home ∧
      4 ≤ fullQueue.length ∧ (copying 0).port.holder ≠ .step .copy ∧
      ({ copying 0 with mode := .quiescing } : State).mode = .quiescing ∧ (copying 0).writeBacks = [] := by
  decide

theorem witness_PopsAndClears :
    Frame.begin.awaits [0x09#8] = true ∧ Frame.begin.awaits [0x14#8] = true ∧ normal.reports = [] ∧
      (normal.append .quietReached).reports = [{ sequence := 0#16, pass := 0#16, report := .quietReached }] := by
  decide

theorem witness_ModeCommandsAnswer :
    (∀ code ∈ [0x20#8, 0x21#8, 0x22#8, 0x23#8], Frame.begin.awaits [code] = true) ∧
      State.reset.host.state ≠ .waiting ∧
      ({ normal with
          mode := .quiet
          host := { HostPort.none with state := .waiting, record := some (cycle .read) } } : State).host.record =
        some (cycle .read) ∧
      (copying 0).copy ≠ none ∧ normal.copy = none ∧ normal.writeBacks = [] := by
  decide

end Sys2Proof.Tests
end

section
/-! SUPPORT. The Check Code Unit (01_the_check_code.md). The code is linear: check values and syndromes add, so the syndrome of
a struck word is that of the word before, exclusive-ORed with one column per inverted position. What decodes as what is then
read off the columns' weights: every column has odd weight, so two of them leave an even weight. -/

namespace Sys2Proof.Machine

/-! ### Data bits and check bits of a stored word -/

theorem getLsbD_storedData (w : StoredWord) (i : Nat) :
    (storedData w).getLsbD i = (decide (i < 32) && w.getLsbD i) := by
  simp [storedData]

theorem getLsbD_storedCheck (w : StoredWord) (i : Nat) :
    (storedCheck w).getLsbD i = (decide (i < 7) && w.getLsbD (32 + i)) := by
  simp [storedCheck]

theorem getLsbD_storeWord (check : CheckBits) (data : DataWord) (i : Nat) :
    (storeWord check data).getLsbD i = if i < 32 then data.getLsbD i else check.getLsbD (i - 32) :=
  BitVec.getLsbD_append

@[simp] theorem storedData_storeWord (check : CheckBits) (data : DataWord) :
    storedData (storeWord check data) = data := by
  apply BitVec.eq_of_getLsbD_eq
  intro i hi
  rw [getLsbD_storedData, getLsbD_storeWord, if_pos hi, decide_eq_true hi, Bool.true_and]

@[simp] theorem storedCheck_storeWord (check : CheckBits) (data : DataWord) :
    storedCheck (storeWord check data) = check := by
  apply BitVec.eq_of_getLsbD_eq
  intro i hi
  rw [getLsbD_storedCheck, getLsbD_storeWord, if_neg (by omega), decide_eq_true hi, Bool.true_and,
    Nat.add_sub_cancel_left]

theorem storeWord_storedCheck_storedData (w : StoredWord) : storeWord (storedCheck w) (storedData w) = w := by
  apply BitVec.eq_of_getLsbD_eq
  intro i hi
  rw [getLsbD_storeWord, getLsbD_storedData, getLsbD_storedCheck]
  split
  next hdata => simp [hdata]
  next hcheck => simp [show i - 32 < 7 by omega, show 32 + (i - 32) = i by omega]

theorem storedData_xor (a b : StoredWord) : storedData (a ^^^ b) = storedData a ^^^ storedData b :=
  BitVec.extractLsb'_xor

theorem storedCheck_xor (a b : StoredWord) : storedCheck (a ^^^ b) = storedCheck a ^^^ storedCheck b :=
  BitVec.extractLsb'_xor

/-- Inverting one of the positions 0 to 31 inverts that data bit, and inverting a check bit inverts no data bit (R1). -/
theorem storedData_twoPow (i : Nat) :
    storedData (BitVec.twoPow 39 i) = if i < 32 then BitVec.twoPow 32 i else 0#32 := by
  apply BitVec.eq_of_getLsbD_eq
  intro j hj
  rw [getLsbD_storedData, BitVec.getLsbD_twoPow, decide_eq_true hj, Bool.true_and]
  split
  next hi => rw [BitVec.getLsbD_twoPow, decide_eq_true hi, decide_eq_true (show i < 39 by omega)]
  next hi => simp [show i ≠ j by omega]

/-! ### Check values and syndromes add -/

theorem xorColumns_xor (a b : DataWord) (columns : List CheckBits) (i : Nat) :
    xorColumns (a ^^^ b) i columns = xorColumns a i columns ^^^ xorColumns b i columns := by
  induction columns generalizing i with
  | nil => simp [xorColumns]
  | cons column rest ih =>
    have term_xor (x y : Bool) :
        (if (x ^^ y) then column else 0#7) = (if x then column else 0#7) ^^^ (if y then column else 0#7) := by
      cases x <;> cases y <;> simp
    simp only [xorColumns, ih, BitVec.getLsbD_xor, term_xor]
    ac_rfl

theorem generatedCheck_xor (a b : DataWord) : generatedCheck (a ^^^ b) = generatedCheck a ^^^ generatedCheck b :=
  xorColumns_xor a b dataColumns 0

theorem syndrome_xor (a b : StoredWord) : syndrome (a ^^^ b) = syndrome a ^^^ syndrome b := by
  simp only [syndrome, storedCheck_xor, storedData_xor, generatedCheck_xor]
  ac_rfl

theorem syndrome_storeWord (check : CheckBits) (data : DataWord) :
    syndrome (storeWord check data) = check ^^^ generatedCheck data := by
  simp [syndrome]

@[simp] theorem syndrome_encode (data : DataWord) : syndrome (encode data) = 0#7 := by
  simp [encode, syndrome_storeWord]

@[simp] theorem syndrome_poisonMarker (data : DataWord) : syndrome (poisonMarker data) = 127#7 := by
  rw [poisonMarker, syndrome_storeWord, BitVec.xor_comm, ← BitVec.xor_assoc, BitVec.xor_self, BitVec.zero_xor]

/-! ### Weights -/

/-- Weights add up to parity: a position where both values have a one is counted twice on the right and not at all on the
left. -/
theorem weight_xor_mod_two (a b : CheckBits) : weight (a ^^^ b) % 2 = (weight a + weight b) % 2 := by
  unfold weight
  induction List.range 7 with
  | nil => rfl
  | cons j rest ih =>
    simp only [List.filter_cons, BitVec.getLsbD_xor] at ih ⊢
    cases a.getLsbD j <;> cases b.getLsbD j <;> simp <;> omega

theorem weight_complement (c : CheckBits) : weight (127#7 ^^^ c) + weight c = 7 := by
  have inverted : weight (127#7 ^^^ c) = ((List.range 7).filter fun j => !c.getLsbD j).length := by
    unfold weight
    congr 1
    apply List.filter_congr
    intro j hj
    have hone : (127#7).getLsbD j = true := by
      rw [show 127#7 = BitVec.allOnes 7 from rfl, BitVec.getLsbD_allOnes]
      simpa using hj
    rw [BitVec.getLsbD_xor, hone, Bool.true_xor]
  have hsplit := List.length_eq_length_filter_add (l := List.range 7) (fun j => c.getLsbD j)
  rw [List.length_range] at hsplit
  rw [inverted, weight, Nat.add_comm, ← hsplit]

theorem weight_eq_zero_iff (c : CheckBits) : weight c = 0 ↔ c = 0#7 := by
  constructor
  · intro h
    apply BitVec.eq_of_getLsbD_eq
    intro j hj
    have hnil := List.filter_eq_nil_iff.1 (List.length_eq_zero_iff.1 h) j (List.mem_range.2 hj)
    simpa using hnil
  · rintro rfl
    rfl

theorem weight_eq_seven_iff (c : CheckBits) : weight c = 7 ↔ c = 127#7 := by
  have hsum := weight_complement c
  calc weight c = 7 ↔ weight (127#7 ^^^ c) = 0 := by omega
    _ ↔ 127#7 ^^^ c = 0#7 := weight_eq_zero_iff _
    _ ↔ c = 127#7 := by rw [BitVec.xor_eq_zero_iff, eq_comm]

/-! ### Classes -/

theorem classOfSyndrome_eq_poisoned_iff (c : CheckBits) : classOfSyndrome c = .poisoned ↔ c = 127#7 := by
  rw [← weight_eq_seven_iff]
  unfold classOfSyndrome
  split_ifs <;> simp <;> omega

/-- Every column of a data bit has weight 3 (R2), so a value of another weight names no data bit. -/
theorem namedDataBit_eq_none_of_weight_ne {c : CheckBits} (h : weight c ≠ 3) : namedDataBit c = none := by
  have columns_weight : ∀ column ∈ dataColumns, weight column = 3 := by decide
  rw [namedDataBit, List.findIdx?_eq_none_iff]
  intro column hmem
  simp only [beq_eq_false_iff_ne]
  rintro rfl
  exact h (columns_weight _ hmem)

theorem decode_of_poisoned {w : StoredWord} (h : syndrome w = 127#7) :
    decode w = { cls := .poisoned, data := storedData w, flag := true, repaired := encode (storedData w) } := by
  have hcls := (classOfSyndrome_eq_poisoned_iff _).2 h
  have hnone : namedDataBit (syndrome w) = none := namedDataBit_eq_none_of_weight_ne (by rw [h]; decide)
  simp [decode, decodedData, hcls, hnone]

/-- A syndrome of even weight that is not 0 is DOUBLE, flagged, with the raw data returned (R5, R6). -/
theorem decode_of_even_weight {w : StoredWord} (heven : weight (syndrome w) % 2 = 0) (hne : syndrome w ≠ 0#7) :
    decode w = { cls := .double, data := storedData w, flag := true, repaired := encode (storedData w) } := by
  have hpos : weight (syndrome w) ≠ 0 := fun h => hne ((weight_eq_zero_iff _).1 h)
  have hcls : classOfSyndrome (syndrome w) = .double := by
    rw [classOfSyndrome, if_neg hpos, if_neg (by omega), if_neg (by omega), if_pos heven]
  have hnone : namedDataBit (syndrome w) = none := namedDataBit_eq_none_of_weight_ne (by omega)
  simp [decode, decodedData, hcls, hnone]

/-! ### The column of a position -/

/-- The column of a position of the stored word: a data bit's column, or for a check bit the value with that bit alone (R2). -/
def positionColumn (i : Nat) : CheckBits := if i < 32 then dataColumns.getD i 0#7 else BitVec.twoPow 7 (i - 32)

theorem syndrome_twoPow : ∀ i < 39, syndrome (BitVec.twoPow 39 i) = positionColumn i := by decide

theorem weight_positionColumn : ∀ i < 39, weight (positionColumn i) = if i < 32 then 3 else 1 := by decide

theorem namedDataBit_positionColumn : ∀ i < 39, namedDataBit (positionColumn i) = if i < 32 then some i else none := by
  decide

theorem classOfSyndrome_positionColumn :
    ∀ i < 39, classOfSyndrome (positionColumn i) = if i < 32 then .singleData else .singleCheck := by
  decide

theorem positionColumn_injective : ∀ i < 39, ∀ j < 39, positionColumn i = positionColumn j → i = j := by decide

/-! ### Encoded words and markers with inverted positions -/

theorem syndrome_encode_struck (data : DataWord) {i : Nat} (hi : i < 39) :
    syndrome (encode data ^^^ BitVec.twoPow 39 i) = positionColumn i := by
  rw [syndrome_xor, syndrome_encode, BitVec.zero_xor, syndrome_twoPow i hi]

theorem syndrome_encode_struck_twice (data : DataWord) {i j : Nat} (hi : i < 39) (hj : j < 39) :
    syndrome (encode data ^^^ BitVec.twoPow 39 i ^^^ BitVec.twoPow 39 j) = positionColumn i ^^^ positionColumn j := by
  rw [syndrome_xor, syndrome_encode_struck data hi, syndrome_twoPow j hj]

theorem syndrome_poisonMarker_struck (data : DataWord) {i : Nat} (hi : i < 39) :
    syndrome (poisonMarker data ^^^ BitVec.twoPow 39 i) = 127#7 ^^^ positionColumn i := by
  rw [syndrome_xor, syndrome_poisonMarker, syndrome_twoPow i hi]

theorem decodedData_encode_struck (data : DataWord) {i : Nat} (hi : i < 39) :
    decodedData (encode data ^^^ BitVec.twoPow 39 i) = data := by
  rw [decodedData, syndrome_encode_struck data hi, namedDataBit_positionColumn i hi, storedData_xor, storedData_twoPow,
    encode, storedData_storeWord]
  by_cases hdata : i < 32
  · simp only [if_pos hdata, BitVec.xor_assoc, BitVec.xor_self, BitVec.xor_zero]
  · simp only [if_neg hdata, BitVec.xor_zero]

/-- A single inverted position is named for what it is and corrected (R11). -/
theorem decode_encode_struck (data : DataWord) {i : Nat} (hi : i < 39) :
    decode (encode data ^^^ BitVec.twoPow 39 i) =
      { cls := if i < 32 then .singleData else .singleCheck, data := data, flag := false, repaired := encode data } := by
  have hcls := classOfSyndrome_positionColumn i hi
  rw [decode, decodedData_encode_struck data hi, syndrome_encode_struck data hi, hcls]
  split <;> rfl

/-- A column has odd weight, so two of them leave an even weight. -/
theorem weight_two_columns_even {i j : Nat} (hi : i < 39) (hj : j < 39) :
    weight (positionColumn i ^^^ positionColumn j) % 2 = 0 := by
  rw [weight_xor_mod_two, weight_positionColumn i hi, weight_positionColumn j hj]
  split_ifs <;> rfl

theorem two_columns_ne_zero {i j : Nat} (hi : i < 39) (hj : j < 39) (hij : i ≠ j) :
    positionColumn i ^^^ positionColumn j ≠ 0#7 := fun h =>
  hij (positionColumn_injective i hi j hj (BitVec.xor_eq_zero_iff.1 h))

/-- The marker's syndrome has all seven bits, so one column less leaves 4 for a data bit and 6 for a check bit. -/
theorem weight_marker_column {i : Nat} (hi : i < 39) :
    weight (127#7 ^^^ positionColumn i) = if i < 32 then 4 else 6 := by
  have hsum := weight_complement (positionColumn i)
  rw [weight_positionColumn i hi] at hsum
  split_ifs at hsum ⊢ <;> omega

theorem ne_all_ones_of_even_weight {c : CheckBits} (heven : weight c % 2 = 0) : c ≠ 127#7 := by
  rintro rfl
  exact absurd heven (by decide)

theorem positionColumn_ne_all_ones {i : Nat} (hi : i < 39) : positionColumn i ≠ 127#7 := by
  intro h
  have hweight := weight_positionColumn i hi
  rw [(weight_eq_seven_iff _).2 h] at hweight
  split_ifs at hweight <;> contradiction

theorem storedCheck_eq_syndrome_xor (w : StoredWord) :
    storedCheck w = syndrome w ^^^ generatedCheck (storedData w) := by
  rw [syndrome, BitVec.xor_assoc, BitVec.xor_self, BitVec.xor_zero]

/-- Data and syndrome determine a stored word: with syndrome 127 it is the marker over its raw data (R8). -/
theorem poisonMarker_storedData {w : StoredWord} (h : syndrome w = 127#7) : poisonMarker (storedData w) = w := by
  calc poisonMarker (storedData w) = storeWord (storedCheck w) (storedData w) := by
        rw [poisonMarker, storedCheck_eq_syndrome_xor, h, BitVec.xor_comm]
    _ = w := storeWord_storedCheck_storedData w

/-! ### The obligations -/

/-- Settles O15: the class of a struck word is read off the weight of the columns that make up its syndrome. -/
theorem codeGuarantees : Obligations.CodeGuarantees := by
  intro data i hi ones struck marker
  have hstruck : syndrome struck = positionColumn i := syndrome_encode_struck data hi
  have marker_weight : weight (syndrome marker) = if i < 32 then 4 else 6 := by
    rw [syndrome_poisonMarker_struck data hi, weight_marker_column hi]
  have marker_decode : decode marker = _ :=
    decode_of_even_weight (by rw [marker_weight]; split_ifs <;> rfl)
      (fun h => by rw [(weight_eq_zero_iff _).2 h] at marker_weight; split_ifs at marker_weight)
  refine ⟨hstruck, ?named, decode_encode_struck data hi, ?unpoisoned, ?twice, ?markerWeight, ?markerDecode⟩
  case named =>
    intro hdata
    rw [hstruck, namedDataBit_positionColumn i hi, if_pos hdata]
  case unpoisoned =>
    rw [hstruck]
    exact positionColumn_ne_all_ones hi
  case twice =>
    intro j hj hij w
    have hw : syndrome w = positionColumn i ^^^ positionColumn j := syndrome_encode_struck_twice data hi hj
    have heven : weight (syndrome w) % 2 = 0 := by rw [hw, weight_two_columns_even hi hj]
    have hne : syndrome w ≠ 0#7 := by rw [hw]; exact two_columns_ne_zero hi hj hij
    rw [decode_of_even_weight heven hne]
    exact ⟨heven, hne, ne_all_ones_of_even_weight heven, rfl, rfl, rfl⟩
  case markerWeight =>
    change weight (syndrome marker) = 4 ∨ weight (syndrome marker) = 6
    rw [marker_weight]
    split_ifs <;> simp
  case markerDecode =>
    rw [marker_decode]
    exact ⟨rfl, rfl, rfl⟩

/-- Settles O16: POISONED is the syndrome 127 alone, and data and syndrome determine a stored word. -/
theorem poisonMarkers : Obligations.PoisonMarkers := by
  constructor
  · intro data
    have hdata : storedData (poisonMarker data) = data := storedData_storeWord _ _
    rw [decode_of_poisoned (syndrome_poisonMarker data)]
    refine ⟨rfl, hdata, ?_, syndrome_poisonMarker data, rfl, hdata, rfl⟩
    rw [poisonMarker, encode, storedCheck_storeWord, storedCheck_storeWord]
    exact BitVec.xor_allOnes
  · intro w hcls
    exact poisonMarker_storedData ((classOfSyndrome_eq_poisoned_iff _).1 hcls)

end Sys2Proof.Machine
end

section
/-! SUPPORT. What a command can do to the state, said once: it is a chain of elementary changes, one per part of the state.
A property that every elementary change keeps is kept by every command and by every step. -/

namespace Sys2Proof.Machine

/-! ### The commands that move a line, write a setting or reset the part -/

/-- The commands of the line HSTB. -/
def movesHstb : Instr → Bool
  | .hostStrobe .. | .hstbDeassert => true
  | _ => false

/-- The commands of the line HRESET. -/
def movesHreset : Instr → Bool
  | .hresetAssert | .hresetDeassert => true
  | _ => false

/-- The commands of the line PORESET. -/
def movesPoreset : Instr → Bool
  | .poresetAssert | .poresetDeassert => true
  | _ => false

/-- The commands of the line MCS; RESET_COLD stands for the rise that ends its frame. -/
def movesMcs : Instr → Bool
  | .frameBegin | .frameEnd | .resetCold => true
  | _ => false

/-- The commands that a write of a setting can come from. -/
def writesSettings : Instr → Bool
  | .writeSetting .. | .writeMemoryLinesLog2 _ | .writeSpareCount _ | .writePatrolInterval _ | .writeDebtLimit _
  | .writeMigrateThreshold _ | .writeMigrateOnUncorrectable _ | .writeAgePasses _ | .writeAlertMask _
  | .msckRisingEdge _ => true
  | _ => false

/-- The commands that a cold reset can come from. -/
def resetsCold : Instr → Bool
  | .poresetAssert | .resetCold | .frameEnd => true
  | _ => false

/-! ### Elementary changes -/

/-- A sweep step's access is in progress on a port that no warm reset has abandoned. -/
def sweeps (q : MemoryPort) : Prop := q.abandoned = false ∧ ∃ a w, q.access = some (.sweepWrite a w)

/-- The context of a copy at its take (R137). -/
def State.takenCopy (s : State) (r : MigrationRequest) (target : Nat) : Copy :=
  { home := r.home, sourceLine := s.translate r.home, sourceSlot := s.activeSlot r.home, target := target, cursor := 0,
    reason := r.reason, carried := 0, poisoned := 0, abortPending := false }

/-- An elementary change that command `c` can make, where it met the state `p` with its grant made: the access that `p` has in
progress names the one word of the array that is written. A change carries what the command's tests have shown of the state
that it changes. -/
inductive Effect (c : Instr) (p : State) : State → State → Prop
  | host (s : State) (h : HostPort) (held : Bool) : Effect c p s { s with host := h, strobeHeld := held }
  | arbiter (s : State) (a : Option Award) (o : Bool) : Effect c p s { s with award := a, decisionOpen := o }
  | port (s : State) (q : MemoryPort) (hq : sweeps q → sweeps s.port ∨ q = p.port) : Effect c p s { s with port := q }
  | starvation (s : State) (n : Nat) (hn : n ≤ 16) : Effect c p s { s with starvation := n }
  | writeBacks (s : State) (ws : List WriteBack) : Effect c p s { s with writeBacks := ws }
  | freeIndex (s : State) (n : Nat) : Effect c p s { s with freeIndex := n }
  | frame (s : State) (f : Frame) : Effect c p s { s with frame := f }
  | write (s : State) (x : Access) (w : StoredWord) (hx : p.port.access = some x) :
    Effect c p s { s with cells := setCell s.cells x.word w }
  | report (s : State) (r : Report) (hr : r.isLost = false) : Effect c p s (s.append r)
  | pop (s : State) (r : ReportRecord) (rest : List ReportRecord) (hr : s.reports = r :: rest) :
    Effect c p s (State.evaluateAlert { s with reports := rest })
  | entries (s : State) (f : HealthEntry → HealthEntry) (hline : ∀ e, (f e).line = e.line)
    (hcount : ∀ e, e.count ≤ 255 → (f e).count ≤ 255) :
    Effect c p s { s with health := s.health.map (Option.map f) }
  | forget (s : State) (gone : HealthEntry → Bool) : Effect c p s (s.removeHealth gone)
  | newEntry (s : State) (i : Nat) (e : HealthEntry) (hnew : s.healthEntry e.line = none) (hcount : e.count ≤ 255) :
    Effect c p s { s with health := s.health.set i (some e) }
  | preset (s : State) (n line : Nat) (hm : s.mode = .uninit) (hfree : s.slots[n]? = some .free)
    (hview : line < s.poolBase) (hnew : s.activeSlot line = none) :
    Effect c p s (s.setSlot n (.active line .preset s.patrol.pass))
  | unmap (s : State) (n : Nat) (slot : Slot) (hm : s.mode = .uninit) (hslot : s.slots[n]? = some slot)
    (huse : slot.inUse = true) : Effect c p s (s.setSlot n .free)
  | request (s : State) (home : Nat) (reason : Reason)
    (hm : s.mode ≠ .uninit ∨ (s.mode = p.mode ∧ p.liveAccess.isSome = true))
    (hview : home < s.poolBase ∨ home ∈ s.activeHomes) (ha : s.intakeAnswer home = .accepted) :
    Effect c p s { s with migrations := s.migrations ++ [{ home := home, reason := reason }] }
  | dropRequests (s : State) (rest : List MigrationRequest) (hrest : rest.Sublist s.migrations) :
    Effect c p s { s with migrations := rest }
  | takeRequest (s : State) (r : MigrationRequest) (rest : List MigrationRequest) (target : Nat) (hm : s.mode = .normal)
    (hcopy : s.copy = none) (hqueue : s.migrations = r :: rest) (hfree : s.slots[target]? = some .free) :
    Effect c p s { s with
      migrations := rest
      slots := s.slots.set target (.migrating r.home (.request r.reason) (s.activeSlot r.home))
      copy := some (s.takenCopy r target) }
  | copyStep (s : State) (x : Copy) (source : DecodeClass) (hx : s.copy = some x) (hne : x.cursor + 1 ≠ 8) :
    Effect c p s { s with copy := some (x.stepped source) }
  | pendAbort (s : State) (x : Copy) (hx : s.copy = some x) :
    Effect c p s { s with copy := some { x with abortPending := true } }
  | commit (s : State) (x : Copy) (hx : s.copy = some x) :
    Effect c p s { s with slots := (s.commitSlots x.target x.sourceSlot).slots, copy := none }
  | abort (s : State) (x : Copy) (hx : s.copy = some x) : Effect c p s { s.setSlot x.target .free with copy := none }
  | cursor (s : State) (line index : Nat) (pass : Pass) (hline : s.patrol.line < s.memoryLines → line < s.memoryLines)
    (hindex : index ≤ 7) :
    Effect c p s { s with patrol := { s.patrol with line := line, index := index, pass := pass } }
  | count (s : State) (debt timer : Nat)
    (hdebt : debt ≤ s.patrol.debt ∨ (s.mode = .normal ∧ debt ≤ s.settings.debtLimit))
    (htimer : timer = s.patrol.timer ∨ timer = 0 ∨
      (s.mode = .normal ∧ 1 ≤ s.settings.patrolInterval ∧ timer = s.patrol.timer + 1 ∧ timer ≠ s.settings.patrolInterval)) :
    Effect c p s { s with patrol := { s.patrol with debt := debt, timer := timer } }
  | mode (s : State) (m : Mode) (hrest : m ≠ .normal → s.mode ≠ .normal ∨ (s.patrol.debt = 0 ∧ s.patrol.timer = 0))
    (hleft : s.mode = .sweeping → c = .hresetAssert) (hbegun : m = .sweeping → s.sweepLine = 0)
    (hempty : m = .uninit → s.migrations = [] ∧ s.copy = none) : Effect c p s { s with mode := m }
  | sweepBegin (s : State) : Effect c p s { s with sweepLine := 0, sweepIndex := 0 }
  | sweepWord (s : State) (index : Nat) (hindex : index ≤ 7) : Effect c p s { s with sweepIndex := index }
  | sweepLine (s : State) (hlive : sweeps p.port) (hm : s.mode = p.mode) (hne : s.sweepLine + 1 ≠ s.memoryLines) :
    Effect c p s { s with sweepIndex := 0, sweepLine := s.sweepLine + 1 }
  | sweepEnd (s : State) (hc : c = .sweepWriteComplete) (hm : s.mode ≠ .uninit ∨ (s.mode = p.mode ∧ sweeps p.port))
    (heq : s.sweepLine + 1 = s.memoryLines) :
    Effect c p s (State.enterNormal { s with sweepIndex := 0, sweepLine := s.sweepLine + 1 })
  | setting (s : State) (identifier : Byte) (v : Nat) (hc : writesSettings c = true) :
    Effect c p s (s.putSetting identifier v).2
  | hstb (s : State) (b : Bool) (hc : movesHstb c = true) : Effect c p s { s with hstb := b }
  | hreset (s : State) (b : Bool) (hc : movesHreset c = true) : Effect c p s { s with hreset := b }
  | poreset (s : State) (b : Bool) (hc : movesPoreset c = true) : Effect c p s { s with poreset := b }
  | mcs (s : State) (b : Bool) (hc : movesMcs c = true) : Effect c p s { s with mcs := b }
  | cold (s : State) (hc : resetsCold c = true) (hport : s.port.access = p.port.access) : Effect c p s s.coldReset

/-- A chain of elementary changes. -/
def Effects (c : Instr) (p s t : State) : Prop := Relation.ReflTransGen (Effect c p) s t

namespace Effects

variable {c : Instr} {p s t : State}

theorem refl : Effects c p s s := Relation.ReflTransGen.refl

theorem andThen {u : State} (h : Effects c p s t) (e : Effect c p t u) : Effects c p s u := Relation.ReflTransGen.tail h e

theorem trans {u : State} (h : Effects c p s t) (h' : Effects c p t u) : Effects c p s u := Relation.ReflTransGen.trans h h'

/-- What every elementary change keeps, a chain keeps. -/
theorem keeps {P : State → Prop} (hP : ∀ u v, Effect c p u v → P u → P v) (h : Effects c p s t) (hs : P s) : P t := by
  induction h with
  | refl => exact hs
  | tail _ hstep ih => exact hP _ _ hstep ih

/-! ### The shared operations as chains -/

section
variable (h : Effects c p s t)
include h

theorem writeCell {x : Access} (hx : p.port.access = some x) {a : Nat} (ha : x.word = a) (w : StoredWord) :
    Effects c p s (t.writeCell a w) := by
  subst ha
  exact h.andThen (.write t x w hx)

theorem readCells {x : Access} (hx : p.port.access = some x) {a : Nat} (ha : x.word = a) (w : StoredWord) :
    Effects c p s (t.readCells a w).2 := by
  unfold State.readCells
  split
  · exact h.writeCell hx ha _
  · exact (h.writeCell hx ha _).andThen (.freeIndex _ (t.freeIndex + 1))

theorem append (r : Report) (hr : r.isLost = false) : Effects c p s (t.append r) := h.andThen (.report t r hr)

theorem updateHealth (line : Nat) (f : HealthEntry → HealthEntry) (hline : ∀ e, (f e).line = e.line)
    (hcount : ∀ e, e.count ≤ 255 → (f e).count ≤ 255) : Effects c p s (t.updateHealth line f) := by
  refine h.andThen (.entries t (fun e => if e.line = line then f e else e) ?_ ?_)
  · intro e; split
    · exact hline e
    · rfl
  · intro e he; split
    · exact hcount e he
    · exact he

theorem removeHealth (gone : HealthEntry → Bool) : Effects c p s (t.removeHealth gone) := h.andThen (.forget t gone)

theorem respond (o : HostOutcome) (hd : Option DataWord) : Effects c p s (t.respond o hd) := by
  unfold State.respond
  split <;> exact h.andThen (.host t _ t.strobeHeld)

theorem nextAccess {a : Access} (ha : ∀ word w, a ≠ .sweepWrite word w) : Effects c p s (t.nextAccess a) :=
  h.andThen (.port t _ fun ⟨_, word, w, hx⟩ => absurd (Option.some.inj hx) (ha word w))

theorem nextHostAccess {a : Access} (ha : ∀ word w, a ≠ .sweepWrite word w) : Effects c p s (t.nextHostAccess a) :=
  (h.andThen (.port t { t.port with access := some a, gap := !Config.laterAccessBegun t.freeIndex }
    fun ⟨_, word, w, hx⟩ => absurd (Option.some.inj hx) (ha word w))).andThen (.freeIndex _ (t.freeIndex + 1))

theorem beginAccess (holder : PortHolder) {a : Access} (ha : ∀ word w, a ≠ .sweepWrite word w) :
    Effects c p s (t.beginAccess holder a) :=
  h.andThen (.port t _ fun ⟨_, word, w, hx⟩ => absurd (Option.some.inj hx) (ha word w))

theorem arbitrate : Effects c p s t.arbitrate := by
  unfold State.arbitrate
  split
  · exact h.andThen (.arbiter t _ t.decisionOpen)
  · exact h

theorem freePort : Effects c p s { t with port := MemoryPort.free } :=
  h.andThen (.port t _ fun ⟨_, _, _, hx⟩ => by cases hx)

theorem release : Effects c p s t.release := h.freePort.andThen (.arbiter _ _ _)

theorem supersede (word : Nat) : Effects c p s (t.supersede word) := h.andThen (.writeBacks t _)

theorem requestWriteBack (word : Nat) (data : DataWord) : Effects c p s (t.requestWriteBack word data) := by
  unfold State.requestWriteBack
  split
  · exact h
  · exact h.andThen (.writeBacks t _)

theorem restPatrol : Effects c p s t.restPatrol :=
  h.andThen (.count t 0 0 (.inl (Nat.zero_le _)) (.inr (.inl rfl)))

end

end Effects

/-! ### Reports and health events -/

theorem home_of_requestFor {s : State} {ev : HealthEvent} {home : Nat} {reason : Reason}
    (h : s.requestFor ev = some (home, reason)) : home < s.poolBase ∨ home ∈ s.activeHomes := by
  unfold State.requestFor at h
  split at h
  · cases h
    exact .inl ‹_›
  · obtain ⟨home', hspare, heq⟩ := Option.map_eq_some_iff.mp h
    cases heq
    unfold State.homeOfSpare at hspare
    split at hspare
    · obtain ⟨slot, hslot, hactive⟩ := Option.bind_eq_some_iff.mp hspare
      exact .inr (List.mem_filterMap.mpr ⟨slot, List.mem_of_getElem? hslot, hactive⟩)
    · cases hspare

namespace Effects

variable {c : Instr} {p s t : State}

section
variable (h : Effects c p s t)
include h

theorem appendAll {rs : List Report} (hrs : ∀ r ∈ rs, r.isLost = false) : Effects c p s (t.appendAll rs) := by
  induction rs generalizing t with
  | nil => exact h
  | cons r rest ih =>
    exact ih (h.append r (hrs r (List.mem_cons_self ..))) fun x hx => hrs x (List.mem_cons_of_mem _ hx)

theorem appendForRead {own : Report} {table : List Report} (hown : own.isLost = false)
    (htable : ∀ r ∈ table, r.isLost = false) : Effects c p s (t.appendForRead own table) := by
  have drawn := h.andThen (.freeIndex t (t.freeIndex + 1))
  unfold State.appendForRead
  split
  · exact h.append own hown
  · dsimp only
    split
    · exact (drawn.appendAll htable).append own hown
    · exact (drawn.append own hown).appendAll htable

theorem recordHealth (ev : HealthEvent) : Effects c p s (t.recordHealth ev).1 := by
  unfold State.recordHealth
  split
  · refine h.updateHealth _ _ (fun e => rfl) fun e he => ?_
    simp only [HealthEntry.recordEvent]
    split <;> omega
  · rename_i hnone
    split
    · refine h.andThen (.newEntry t _ (ev.newEntry t.patrol.pass) hnone ?_)
      simp only [HealthEvent.newEntry]
      split <;> omega
    · exact h

theorem deferRequest (line home : Nat) : Effects c p s (t.deferRequest line home).1 := by
  unfold State.deferRequest
  split
  · split
    · exact h
    · exact h.updateHealth _ _ (fun e => rfl) (fun e he => he)
  · exact h

/-- The request of a health event names a host line in view: the event's own line, or the home of the ACTIVE slot whose spare
it is (R100). -/
theorem requestTest (ev : HealthEvent) (hm : t.mode ≠ .uninit ∨ (t.mode = p.mode ∧ p.liveAccess.isSome = true)) :
    Effects c p s (t.requestTest ev).1 := by
  unfold State.requestTest
  split
  · split
    · rename_i home reason hfor
      unfold State.requestMigration
      split
      · rename_i hanswer
        have requested := h.andThen (.request t home reason hm (home_of_requestFor hfor) hanswer)
        rw [State.intake, hanswer]
        exact requested.updateHealth _ _ (fun e => rfl) (fun e he => he)
      · exact h
      · exact h.deferRequest _ _
    · exact h
  · exact h

theorem healthEvent (ev : HealthEvent) (hm : t.mode ≠ .uninit ∨ (t.mode = p.mode ∧ p.liveAccess.isSome = true)) :
    Effects c p s (t.healthEvent ev).1 := by
  refine (h.recordHealth ev).requestTest ev ?_
  rw [State.recordHealth_changes]
  exact hm

end
end Effects

/-- The Line Health Table hands on no LOST record: the Report Queue alone makes those (R177, R178). -/
theorem healthEvent_reports_not_lost (s : State) (ev : HealthEvent) :
    ∀ r ∈ (s.healthEvent ev).2, r.isLost = false := by
  have hrecord : ∀ r ∈ (s.recordHealth ev).2, r.isLost = false := by
    unfold State.recordHealth
    intro r hr
    split at hr
    · simp at hr
    · split at hr
      · split at hr <;> simp at hr
        subst hr; rfl
      · simp at hr; subst hr; rfl
  have hrequest : ∀ t : State, ∀ r ∈ (t.requestTest ev).2, r.isLost = false := by
    unfold State.requestTest State.requestMigration State.deferRequest
    intro t r hr
    repeat' split at hr
    all_goals simp at hr
    all_goals subst hr; rfl
  intro r hr
  rcases List.mem_append.mp hr with hr | hr
  · exact hrecord r hr
  · exact hrequest _ r hr

namespace Effects

variable {c : Instr} {p s t : State} (h : Effects c p s t)
include h

theorem correctedRead (hm : t.mode = p.mode) (hl : p.liveAccess.isSome = true) (word : Nat) (cls : ErrorClass)
    (source : EventSource) : Effects c p s (t.correctedRead word cls source) :=
  (h.healthEvent _ (.inr ⟨hm, hl⟩)).appendAll (healthEvent_reports_not_lost t _)

theorem uncorrectableRead (hm : t.mode = p.mode) (hl : p.liveAccess.isSome = true) {own : Report}
    (hown : own.isLost = false) (word : Nat) (cls : ErrorClass) (source : EventSource) :
    Effects c p s (t.uncorrectableRead own word cls source) :=
  (h.healthEvent _ (.inr ⟨hm, hl⟩)).appendForRead hown (healthEvent_reports_not_lost t _)

/-! ### The end of a grant -/

theorem backToWatch (line : Nat) (was : HealthState) :
    Effects c p s (t.updateHealth line fun e => if e.state = was then e.backToWatch else e) := by
  refine h.updateHealth _ _ (fun e => ?_) (fun e he => ?_)
  · split <;> rfl
  · split <;> exact he

theorem dropCopy {x : Copy} (hx : t.copy = some x) : Effects c p s (t.dropCopy x) :=
  (h.andThen (.abort t x hx)).backToWatch x.sourceLine .moving

theorem cancelCopy {x : Copy} (hx : t.copy = some x) : Effects c p s (t.cancelCopy x) := (h.dropCopy hx).append _ rfl

theorem quietCheck : Effects c p s t.quietCheck := by
  unfold State.quietCheck
  split
  · rename_i hq
    refine (h.andThen (.mode t .quiet ?_ ?_ ?_ ?_)).append _ rfl <;> simp [hq.1]
  · exact h

theorem resolveAbort : Effects c p s t.resolveAbort := by
  unfold State.resolveAbort
  split
  · split
    · exact h.cancelCopy ‹_›
    · exact h
  · exact h

theorem endGrant : Effects c p s t.endGrant := h.resolveAbort.quietCheck.release

theorem finishHost (o : HostOutcome) (hd : Option DataWord) : Effects c p s (t.finishHost o hd) :=
  (h.respond o hd).endGrant

/-! ### The patrol -/

end Effects

/-- The search never leaves the array (R79). -/
theorem searchLine_lt (s : State) (fuel line : Nat) (wrapped : Bool) (h : line < s.memoryLines) :
    (s.searchLine fuel line wrapped).1 < s.memoryLines := by
  induction fuel generalizing line wrapped with
  | zero => exact h
  | succ fuel ih =>
    have hnext : (if line + 1 < s.memoryLines then line + 1 else 0) < s.memoryLines := by split <;> omega
    unfold State.searchLine
    generalize (if line + 1 < s.memoryLines then line + 1 else 0) = next at hnext ⊢
    dsimp only
    split
    · exact hnext
    · exact ih _ _ hnext

namespace Effects

variable {c : Instr} {p s t : State} (h : Effects c p s t)
include h

theorem nextLine : Effects c p s t.nextLine := by
  have aged (pass : Pass) {u : State} (hu : Effects c p s u) : Effects c p s (u.ageHealth pass) := by
    unfold State.ageHealth
    split
    · exact hu
    · exact hu.removeHealth _
  have moved (pass : Pass) := h.andThen (.cursor t (t.searchLine t.memoryLines t.patrol.line false).1 0 pass
    (searchLine_lt t _ _ _) (Nat.zero_le _))
  unfold State.nextLine
  dsimp only
  split
  · exact aged _ (moved (t.patrol.pass + 1))
  · exact moved t.patrol.pass

theorem advancePatrol : Effects c p s t.advancePatrol := by
  unfold State.advancePatrol
  split
  · exact h.andThen (.cursor t t.patrol.line (t.patrol.index + 1) t.patrol.pass id (by omega))
  · exact h.nextLine

theorem enterNormal (hm : t.mode ≠ .sweeping) : Effects c p s t.enterNormal :=
  (h.andThen (.mode t .normal (fun hn => absurd rfl hn) (fun hs => absurd hs hm) (fun hs => by cases hs)
    (fun hs => by cases hs))).restPatrol

theorem expire (hm : t.mode = .normal) : Effects c p s t.expire := by
  unfold State.expire
  split
  · exact (h.andThen (.count t (t.patrol.debt + 1) 0 (.inr ⟨hm, by omega⟩) (.inr (.inl rfl)))).arbitrate
  · exact h.andThen (.count t t.patrol.debt 0 (.inl (Nat.le_refl _)) (.inr (.inl rfl)))

/-! ### The grants -/

theorem grantStep (g : GrantCase) : Effects c p s (t.grantStep g) := by
  rw [State.grantStep_eq]
  exact ((h.andThen (.host t _ t.strobeHeld)).andThen (.arbiter _ none false)).andThen (.starvation _ 0 (by omega))

theorem grantHost : Effects c p s t.grantHost := by
  have cleared := h.andThen (.arbiter t none false)
  unfold State.grantHost
  dsimp only
  split
  · exact cleared
  · split
    · exact cleared
    · rename_i r _ _ a ha
      refine ((cleared.andThen (.starvation _ _ (Nat.min_le_left ..))).andThen (.host _ _ t.strobeHeld)).beginAccess _ ?_
      intro word w hsweep
      cases hkind : r.kind <;> simp [CycleKind.firstAccess, hkind, hsweep] at ha

theorem grantPatrol (g : GrantCase) : Effects c p s (t.grantPatrol g) := by
  have paid := (h.grantStep g).andThen
    (.count (t.grantStep g) ((t.grantStep g).patrol.debt - 1) (t.grantStep g).patrol.timer (.inl (by omega)) (.inl rfl))
  unfold State.grantPatrol State.checkPatrolLine
  dsimp only
  split
  · exact paid.beginAccess _ (by simp)
  · exact paid.nextLine.beginAccess _ (by simp)

theorem grant (a : Award) (hp : p = t.grant a) : Effects c p s (t.grant a) := by
  unfold State.grant State.grantDrain State.grantCopy State.grantSweep at *
  split
  · exact h.grantHost
  · split
    · exact h.grantStep _
    · exact (h.grantStep _).beginAccess _ (by simp)
  · exact h.grantPatrol _
  · split
    · exact h.grantStep _
    · exact (h.grantStep _).beginAccess _ (by simp)
  · rename_i hsweep
    rw [hsweep] at hp
    exact (h.grantStep _).andThen (.port _ _ fun _ => .inr (by rw [hp]; rfl))

theorem settled (hp : p = t.settled) : Effects c p s t.settled := by
  unfold State.settled at *
  split
  · rename_i a ha
    rw [ha] at hp
    exact h.grant a hp
  · exact h

end Effects

/-! ### The resets -/

/-- A warm reset leaves no copy (R155). -/
theorem State.dropMigrations_copy (s : State) : s.dropMigrations.copy = none := by
  unfold State.dropMigrations
  cases hcopy : s.copy with
  | none => exact hcopy
  | some c => rfl

theorem State.dropMigrations_port (s : State) : s.dropMigrations.port = s.port := by
  unfold State.dropMigrations
  cases s.copy <;> rfl

/-- A warm reset lets no sweep step go on that was not in progress on an unheld port (R59). -/
theorem State.sweeps_of_portAfterWarmReset (s : State) (h : sweeps s.portAfterWarmReset) : sweeps s.port := by
  obtain ⟨hlive, word, w, hx⟩ := h
  unfold State.portAfterWarmReset at hlive hx
  split at hlive
  · exact ⟨hlive, word, w, by simpa [‹s.port.holder = .free›] using hx⟩
  · split at hlive
    · cases hlive
    · simp_all [MemoryPort.free]

namespace Effects

variable {c : Instr} {p s t : State} (h : Effects c p s t)
include h

theorem dropMigrations : Effects c p s t.dropMigrations := by
  unfold State.dropMigrations
  dsimp only
  split
  · exact (h.dropCopy ‹_›).andThen (.dropRequests _ [] (List.nil_sublist _))
  · exact h.andThen (.dropRequests t [] (List.nil_sublist _))

theorem healthWarmReset : Effects c p s t.healthWarmReset := by
  refine h.andThen (.entries _ (fun e => if e.state = .queued ∨ e.state = .moving then e.backToWatch else e) ?_ ?_)
  · intro e; split <;> rfl
  · intro e he; split <;> exact he

theorem warmBlocks (hc : c = .hresetAssert) : Effects c p s t.warmBlocks := by
  have hmode : t.mode.afterWarmReset ≠ .sweeping := by cases t.mode <;> simp [Mode.afterWarmReset]
  have hport (hs : sweeps t.portAfterWarmReset) : sweeps t.dropMigrations.port := by
    rw [t.dropMigrations_port]
    exact t.sweeps_of_portAfterWarmReset hs
  have stopped := h.dropMigrations.healthWarmReset.restPatrol.andThen (.mode _ t.mode.afterWarmReset
    (fun _ => .inr ⟨rfl, rfl⟩) (fun _ => hc) (fun hs => absurd hs hmode) fun _ => ⟨rfl, t.dropMigrations_copy⟩)
  have cleared := ((stopped.andThen (.writeBacks _ [])).andThen (.starvation _ 0 (by omega))).andThen
    (.freeIndex _ t.freeIndexAfterReset)
  exact (cleared.andThen (.host _ HostPort.abandon false)).andThen (.port _ t.portAfterWarmReset fun hs => .inl (hport hs))

theorem warmReset (hc : c = .hresetAssert) : Effects c p s t.warmReset := by
  unfold State.warmReset
  dsimp only
  split
  · exact ((h.warmBlocks hc).append _ rfl).append _ rfl
  · exact (h.warmBlocks hc).append _ rfl

theorem raiseMcs (hc : movesMcs c = true) (hr : resetsCold c = true) (hport : t.port = p.port) :
    Effects c p s t.raiseMcs := by
  have raised := h.andThen (.mcs t false hc)
  unfold State.raiseMcs
  dsimp only
  split
  · exact raised.andThen (.cold _ hr (by rw [← hport]))
  · exact raised.andThen (.frame _ _)

/-! ### Host cycles -/

theorem refuseCycle (r : CycleRecord) (reason : RefusalReason) : Effects c p s (t.refuseCycle r reason) :=
  ((h.andThen (.host t _ t.strobeHeld)).append _ rfl).respond _ _

theorem strobe (r : CycleRecord) : Effects c p s (t.strobe r) := by
  have recorded (h' : HostPort) := h.andThen (.host t h' t.strobeHeld)
  unfold State.strobe
  split
  · exact h.refuseCycle _ _
  · dsimp only
    split
    · exact (recorded _).respond _ _
    · exact (recorded _).arbitrate

theorem hostReadDecoded (hm : t.mode = p.mode) (hl : p.liveAccess.isSome = true) (r : CycleRecord) (word : Nat) (d : Decoded) : Effects c p s (t.hostReadDecoded r word d) := by
  unfold State.hostReadDecoded State.hostReadError
  split
  · split
    · split
      · exact (h.correctedRead hm hl ..).nextHostAccess (by simp)
      · exact ((h.requestWriteBack ..).correctedRead (by simpa using hm) hl ..).finishHost _ _
    · exact (h.uncorrectableRead hm hl rfl ..).finishHost _ _
  · split
    · exact (h.append _ rfl).finishHost _ _
    · exact h.finishHost _ _

theorem mergeDecoded (hm : t.mode = p.mode) (hl : p.liveAccess.isSome = true) (r : CycleRecord) (data : DataWord) (word : Nat) (d : Decoded) :
    Effects c p s (t.mergeDecoded r data word d) := by
  unfold State.mergeDecoded State.refuseMerge State.makeMerge
  dsimp only
  split
  · split
    · exact (h.uncorrectableRead hm hl rfl ..).finishHost _ _
    · exact (h.append _ rfl).finishHost _ _
  · split
    · exact (h.correctedRead hm hl ..).nextHostAccess (by simp)
    · exact h.nextHostAccess (by simp)

end Effects

/-! ### The internal steps -/

theorem State.commitSlots_changes (s : State) (target : Nat) (replaced : Option Nat) :
    s.commitSlots target replaced = { s with slots := (s.commitSlots target replaced).slots } := by
  unfold State.commitSlots
  cases replaced <;> rfl

/-- The slot found is FREE (R120). -/
theorem slot_of_freeSlot {s : State} {n : Nat} (h : s.freeSlot = some n) : s.slots[n]? = some .free := by
  obtain ⟨hn, hfree, -⟩ := List.findIdx?_eq_some_iff_getElem.mp h
  rw [List.getElem?_eq_getElem hn, beq_iff_eq.mp hfree]

namespace Effects

variable {c : Instr} {p s t : State} (h : Effects c p s t)
include h

theorem takeHead (hdue : t.takeDue = true) : Effects c p s t.takeHead := by
  obtain ⟨hcopy, hm⟩ : t.copy = none ∧ t.mode = .normal := by
    simp only [State.takeDue, Bool.and_eq_true, Option.isNone_iff_eq_none, beq_iff_eq] at hdue
    exact hdue.1
  unfold State.takeHead
  split
  · exact h
  · rename_i r rest hqueue
    dsimp only
    split
    · rename_i target hfree
      have hslot : t.slots[target]? = some .free := slot_of_freeSlot hfree
      exact ((h.andThen (.takeRequest t r rest target hm hcopy hqueue hslot)).updateHealth _
        (fun e => { e with state := .moving }) (fun _ => rfl) fun _ he => he).removeHealth _
    · exact ((h.andThen (.dropRequests t rest (hqueue ▸ List.sublist_cons_self r rest))).updateHealth _
        (fun e => { e with state := .unrepairable }) (fun _ => rfl) fun _ he => he).append
        (.migrationFailed r.home .poolEmpty) rfl

theorem patrolReadDecoded (hm : t.mode = p.mode) (hl : p.liveAccess.isSome = true) (word : Nat) (d : Decoded) : Effects c p s (t.patrolReadDecoded word d) := by
  unfold State.patrolReadDecoded
  split
  · split
    · exact (h.correctedRead hm hl ..).nextAccess (by simp)
    · exact (h.uncorrectableRead hm hl rfl ..).advancePatrol.endGrant
  · exact h.advancePatrol.endGrant

theorem copyReadDecoded (x : Copy) (word : Nat) (d : Decoded) : Effects c p s (t.copyReadDecoded x word d) := by
  unfold State.copyReadDecoded
  dsimp only
  split
  · exact (h.append _ rfl).nextAccess (by simp)
  · exact h.nextAccess (by simp)

theorem copyStepEnds {x : Copy} (hx : t.copy = some x) (source : DecodeClass) :
    Effects c p s (t.copyStepEnds x source) := by
  unfold State.copyStepEnds
  split
  · exact h
  · split
    · have cut := ((h.andThen (.commit t x hx)).andThen
        (.writeBacks _ (t.writeBacks.filter fun w => lineOf w.word != x.sourceLine))).removeHealth
          fun e => e.line == x.sourceLine
      unfold State.commitCopy
      rw [State.commitSlots_changes]
      exact cut.append (.migrationDone x.home x.target x.sourceSlot _ _) rfl
    · exact h.andThen (.copyStep t x source hx ‹_›)

theorem advanceSweep (hc : c = .sweepWriteComplete) (hm : t.mode = p.mode) (hl : sweeps p.port) :
    Effects c p s t.advanceSweep := by
  unfold State.advanceSweep State.sweepDone
  dsimp only
  split
  · exact h.andThen (.sweepWord t _ (by omega))
  · split
    · exact (h.andThen (.sweepEnd t hc (.inr ⟨hm, hl⟩) ‹_›)).append _ rfl
    · exact h.andThen (.sweepLine t hl hm ‹_›)

/-! ### The management port -/

theorem popReport : Effects c p s t.runPopReport.2 := by
  unfold State.runPopReport
  split
  · exact h.andThen (.pop t _ _ ‹_›)
  · exact h

theorem mapPreset (line : Nat) : Effects c p s (t.runMapPreset line).2 := by
  unfold State.runMapPreset
  split
  · exact h
  split
  · exact h
  split
  · exact h
  · rename_i hm hview hmapped
    split
    · exact h
    · exact h.andThen (.preset t _ line (not_not.mp hm) (slot_of_freeSlot ‹_›) (by omega)
        (by simpa using hmapped))

theorem unmapSlot (number : Byte) : Effects c p s (t.runUnmapSlot number).2 := by
  unfold State.runUnmapSlot
  split
  · exact h
  · rename_i hm
    split
    · exact h
    · split
      · exact h.andThen (.unmap t _ _ (not_not.mp hm) ‹_› ‹_›)
      · exact h

theorem migrate (line : Nat) : Effects c p s (t.runMigrate line).2 := by
  unfold State.runMigrate
  split
  · exact h
  split
  · exact h
  · rename_i hm hview
    split
    · exact h
    · exact h
    · rename_i hanswer
      rw [State.intake, hanswer]
      exact h.andThen (.request t line .command (.inl fun hu => hm (.inl hu)) (.inl (by omega)) hanswer)

theorem cancel (line : Nat) : Effects c p s (t.runCancel line).2 := by
  unfold State.runCancel State.cancelInFlight State.cancelQueued
  split
  · exact h
  · split
    · rename_i x hof
      have hx : t.copy = some x := (Option.filter_eq_some_iff.mp hof).1
      dsimp only
      split
      · exact h.andThen (.pendAbort t x hx)
      · exact (h.cancelCopy hx).quietCheck
    · split
      · exact (h.andThen (.dropRequests t _ List.filter_sublist)).backToWatch _ .queued
      · exact h

theorem startSweep : Effects c p s t.runStartSweep.2 := by
  unfold State.runStartSweep State.refuseWaiting
  split
  · rename_i hm
    have begun : Effects c p s { t with mode := .sweeping, sweepLine := 0, sweepIndex := 0 } := by
      refine (h.andThen (.sweepBegin t)).andThen (.mode _ .sweeping (fun _ => .inl ?_) (fun hs => ?_) (fun _ => rfl)
        fun hs => by cases hs)
      · rcases hm with hm | hm <;> simp [hm]
      · rcases hm with hm | hm <;> simp [hm] at hs
    dsimp only
    split
    · split
      · exact (begun.refuseCycle _ _).arbitrate
      · exact begun.arbitrate
    · exact begun.arbitrate
  · exact h

theorem adopt : Effects c p s t.runAdopt.2 := by
  unfold State.runAdopt
  split
  · exact h.enterNormal (by simp [*])
  · exact h

theorem quiesce : Effects c p s t.runQuiesce.2 := by
  unfold State.runQuiesce
  split
  · rename_i hm
    exact (h.restPatrol.andThen (.mode _ .quiescing (fun _ => .inr ⟨rfl, rfl⟩)
      (fun hs => absurd (hm.symm.trans hs) (by simp)) (fun hs => by cases hs) fun hs => by cases hs)).quietCheck
  all_goals exact h

theorem resume : Effects c p s t.runResume.2 := by
  unfold State.runResume
  split
  · rename_i hm
    exact h.enterNormal (by rcases hm with hm | hm <;> simp [hm])
  · exact h

theorem writeSetting (identifier : Byte) (value : BitVec 16) (hc : writesSettings c = true) :
    Effects c p s (t.runWriteSetting identifier value).2 := by
  unfold State.runWriteSetting
  dsimp only
  split <;> exact h.andThen (.setting t _ _ hc)

theorem run (command : Command) (args : List Byte) (hc : writesSettings c = true) :
    Effects c p s (t.run command args).2 := by
  cases command
  case writeSetting => exact h.writeSetting _ _ hc
  case popReport => exact h.popReport
  case mapPreset => exact h.mapPreset _
  case unmapSlot => exact h.unmapSlot _
  case migrate => exact h.migrate _
  case cancel => exact h.cancel _
  case clearHealth => exact h.removeHealth _
  case startSweep => exact h.startSweep
  case adopt => exact h.adopt
  case quiesce => exact h.quiesce
  case resume => exact h.resume
  case readSetting => simp only [State.run, State.runReadSetting]; split <;> exact h
  case readSlot => simp only [State.run, State.runReadSlot]; split <;> exact h
  case readHealth => simp only [State.run, State.runReadHealth]; split <;> exact h
  case readMigration => simp only [State.run, State.runReadMigration]; split <;> exact h
  case peekReport => simp only [State.run, State.runPeekReport]; split <;> exact h
  case identify | readStatus | resetCold => exact h

theorem runByte (code : Byte) (args : List Byte) (hc : writesSettings c = true) :
    Effects c p s (t.runByte code args).2 := by
  unfold State.runByte
  split
  · exact h.run _ _ hc
  · exact h

theorem executed (code : Byte) (args : List Byte) (hc : writesSettings c = true) :
    Effects c p s (afterExecution code args (t.runByte code args)) :=
  (h.runByte code args hc).andThen (.frame _ _)

theorem commandByte (code : Byte) (hc : writesSettings c = true) : Effects c p s (t.commandByte code) := by
  unfold State.commandByte
  split
  · exact h.executed _ _ hc
  · exact h.andThen (.frame t _)

theorem argumentByte (byte : Byte) (hc : writesSettings c = true) : Effects c p s (t.argumentByte byte) := by
  unfold State.argumentByte
  dsimp only
  split
  · exact h.andThen (.frame t _)
  · exact h.executed _ _ hc

theorem clockEdge (msi : Bool) (hc : writesSettings c = true) : Effects c p s (t.clockEdge msi) := by
  have framed (f : Frame) : Effects c p s { t with frame := f } := h.andThen (.frame t f)
  unfold State.clockEdge
  dsimp only
  split
  · split
    · exact h
    · exact framed _
    · exact framed _
    · exact framed _
    · exact framed _
  · split
    · exact h
    · exact h.commandByte _ hc
    · exact h.argumentByte _ hc
    · exact framed _
    · exact framed _

end Effects

theorem Effects.serve {c : Instr} {p s t : State} (h : Effects c p s t) {ran : Reply × State}
    (hran : Effects c p s ran.2) (code : Byte) (args : List Byte) : Effects c p s (t.serve code args ran) := by
  unfold State.serve
  split
  · exact hran.andThen (.frame _ _)
  · exact h

/-! ### Every command -/

theorem mode_of_expiryDue {s : State} (h : s.expiryDue = true) : s.mode = .normal := by
  unfold State.expiryDue State.timerRuns at h
  simp only [Bool.and_eq_true, beq_iff_eq] at h
  exact h.1.1

theorem access_of_live {s : State} {x : Access} (h : s.liveAccess = some x) : s.port.access = some x := by
  unfold State.liveAccess at h
  split at h
  · cases h
  · exact h

theorem sweeps_of_live {s : State} {a : Nat} {w : StoredWord} (h : s.liveAccess = some (.sweepWrite a w)) :
    sweeps s.port := by
  refine ⟨?_, a, w, access_of_live h⟩
  by_contra habandoned
  simp [State.liveAccess, habandoned] at h

section
variable {c : Instr} {s t : State} (start : Effects c s.settled s s.settled)
include start

theorem execTimebaseTick_effects (h : execTimebaseTick s = .next t) :
    Effects c s.settled s t := by
  cases h
  dsimp only
  split
  · exact start.expire (mode_of_expiryDue ‹_›)
  · split
    · rename_i hdue hruns
      obtain ⟨hm, hinterval⟩ : s.settled.mode = .normal ∧ 1 ≤ s.settled.settings.patrolInterval := by
        simpa [State.timerRuns] using hruns
      have hnext : s.settled.patrol.timer + 1 ≠ s.settled.settings.patrolInterval := by
        simpa [State.expiryDue, hruns] using hdue
      exact start.andThen (.count _ _ _ (.inl (Nat.le_refl _)) (.inr (.inr ⟨hm, hinterval, rfl, hnext⟩)))
    · exact start

theorem execIntervalExpiry_effects (h : execIntervalExpiry s = .next t) :
    Effects c s.settled s t := by
  cases h
  split
  · exact start.expire (mode_of_expiryDue ‹_›)
  · exact start

theorem execHostReadComplete_effects (changed : StoredWord) (h : execHostReadComplete changed s = .next t) :
    Effects c s.settled s t := by
  cases h
  split
  · exact (start.readCells (x := .hostRead _) (access_of_live ‹_›) rfl _).hostReadDecoded (by simp) (by simp [*]) ..
  · exact start

theorem execInlineWriteBackComplete_effects (h : execInlineWriteBackComplete s = .next t) :
    Effects c s.settled s t := by
  cases h
  split
  · exact ((start.writeCell (x := .inlineWriteBack _ _) (access_of_live ‹_›) rfl _).supersede _).finishHost ..
  · exact start

theorem execPartialWriteReadComplete_effects (changed : StoredWord) (h : execPartialWriteReadComplete changed s = .next t) :
    Effects c s.settled s t := by
  cases h
  split
  · split
    · exact (start.readCells (x := .mergeRead _) (access_of_live ‹_›) rfl _).mergeDecoded (by simp) (by simp [*]) ..
    · exact start
  · exact start

theorem execHostWriteComplete_effects (h : execHostWriteComplete s = .next t) :
    Effects c s.settled s t := by
  cases h
  split
  · have written (w : StoredWord) := start.writeCell (x := .hostWrite _ _) (access_of_live ‹_›) rfl w
    dsimp only
    split
    · exact ((written _).supersede _).nextHostAccess (by simp)
    · exact ((written _).supersede _).finishHost ..
  · exact start

theorem execTargetWriteComplete_effects (h : execTargetWriteComplete s = .next t) :
    Effects c s.settled s t := by
  cases h
  split
  · exact (start.writeCell (x := .targetWrite _ _) (access_of_live ‹_›) rfl _).finishHost ..
  · exact start

theorem execAbandonedAccessComplete_effects (h : execAbandonedAccessComplete s = .next t) :
    Effects c s.settled s t := by
  cases h
  split
  · unfold State.completeAbandoned
    split
    · split
      · exact (start.writeCell ‹_› rfl _).endGrant
      · exact start.endGrant
    · exact start.endGrant
  · exact start

theorem execDrainWriteComplete_effects (h : execDrainWriteComplete s = .next t) :
    Effects c s.settled s t := by
  cases h
  split
  · exact ((start.writeCell (x := .drainWrite _ _) (access_of_live ‹_›) rfl _).andThen (.writeBacks _ _)).endGrant
  · exact start

theorem execPatrolReadComplete_effects (changed : StoredWord) (h : execPatrolReadComplete changed s = .next t) :
    Effects c s.settled s t := by
  cases h
  split
  · exact (start.readCells (x := .patrolRead _) (access_of_live ‹_›) rfl _).patrolReadDecoded (by simp) (by simp [*]) ..
  · exact start

theorem execPatrolWriteComplete_effects (h : execPatrolWriteComplete s = .next t) :
    Effects c s.settled s t := by
  cases h
  split
  · exact ((start.writeCell (x := .patrolWrite _ _) (access_of_live ‹_›) rfl _).supersede _).advancePatrol.endGrant
  · exact start

theorem execTake_effects (h : execTake s = .next t) :
    Effects c s.settled s t := by
  cases h
  split
  · rename_i hfirst
    simp only [State.takePrecedesDecision, Bool.and_eq_true] at hfirst
    exact (Effects.refl.takeHead hfirst.2).release
  · dsimp only
    split
    · exact (start.takeHead ‹_›).arbitrate
    · exact start

theorem execCopyReadComplete_effects (changed : StoredWord) (h : execCopyReadComplete changed s = .next t) :
    Effects c s.settled s t := by
  cases h
  split
  · exact (start.readCells (x := .copyRead _) (access_of_live ‹_›) rfl _).copyReadDecoded ..
  · exact start

theorem execCopyWriteComplete_effects (h : execCopyWriteComplete s = .next t) :
    Effects c s.settled s t := by
  cases h
  split
  · exact ((start.writeCell (x := .copyWrite _ _ _) (access_of_live ‹_›) rfl _).copyStepEnds ‹_› _).endGrant
  · exact start

theorem execSweepWriteComplete_effects (hc : c = .sweepWriteComplete) (h : execSweepWriteComplete s = .next t) :
    Effects c s.settled s t := by
  cases h
  split
  · exact (((start.writeCell (x := .sweepWrite _ _) (access_of_live ‹_›) rfl _).supersede _).advanceSweep hc rfl
      (sweeps_of_live ‹_›)).endGrant
  · exact start

end

/-- What a command leaves is a chain of elementary changes from what it met: the word that an access in progress names is the
only word that it writes. -/
theorem exec_effects {c : Instr} {s t : State} (h : exec c s = .next t) : Effects c s.settled s t := by
  have start : Effects c s.settled s s.settled := Effects.refl.settled rfl
  have granted (b : Bool) : Effects c s.settled s (if b = true then s.settled else s) := by
    split
    · exact start
    · exact .refl
  have served {ran : Reply × State} (hran : Effects c s.settled s.settled ran.2) (code : Byte) (args : List Byte) :
      Effects c s.settled s (s.settled.serve code args ran) := start.serve (start.trans hran) code args
  cases c
  case hostGrant | drainGrant | patrolGrant | copyGrant | sweepGrant => cases h; exact granted _
  case hostStrobe =>
    cases h
    dsimp only
    split
    · exact ((start.andThen (.hstb _ true rfl)).andThen (.host _ _ true)).strobe _
    · exact start.andThen (.hstb _ true rfl)
  case hstbDeassert =>
    cases h
    dsimp only
    split
    · exact (start.andThen (.hstb _ false rfl)).andThen (.host _ _ false)
    · exact (start.andThen (.hstb _ false rfl)).andThen (.host _ _ false)
  case hresetAssert =>
    cases h
    split
    · exact start.andThen (.hreset _ true rfl)
    · exact (start.andThen (.hreset _ true rfl)).warmReset rfl
  case hresetDeassert =>
    cases h
    split
    · exact (start.andThen (.hreset _ false rfl)).andThen (.host _ HostPort.none s.settled.strobeHeld)
    · exact start.andThen (.hreset _ false rfl)
  case poresetAssert =>
    cases h
    exact (start.andThen (.poreset _ true rfl)).andThen (.cold _ rfl rfl)
  case poresetDeassert =>
    cases h
    exact start.andThen (.poreset _ false rfl)
  case timebaseTick => exact execTimebaseTick_effects start h
  case intervalExpiry => exact execIntervalExpiry_effects start h
  case hostReadComplete => exact execHostReadComplete_effects start _ h
  case inlineWriteBackComplete => exact execInlineWriteBackComplete_effects start h
  case partialWriteReadComplete => exact execPartialWriteReadComplete_effects start _ h
  case hostWriteComplete => exact execHostWriteComplete_effects start h
  case targetWriteComplete => exact execTargetWriteComplete_effects start h
  case abandonedAccessComplete => exact execAbandonedAccessComplete_effects start h
  case drainWriteComplete => exact execDrainWriteComplete_effects start h
  case patrolReadComplete => exact execPatrolReadComplete_effects start _ h
  case patrolWriteComplete => exact execPatrolWriteComplete_effects start h
  case take => exact execTake_effects start h
  case copyReadComplete => exact execCopyReadComplete_effects start _ h
  case copyWriteComplete => exact execCopyWriteComplete_effects start h
  case sweepWriteComplete => exact execSweepWriteComplete_effects start rfl h
  case frameBegin =>
    cases h
    dsimp only
    split
    · exact start.andThen (.mcs _ true rfl)
    · exact (start.andThen (.mcs _ true rfl)).andThen (.frame _ _)
  case frameEnd =>
    cases h
    split
    · exact start.raiseMcs rfl rfl rfl
    · exact start
  case resetCold =>
    cases h
    split
    · refine (start.serve start _ _).raiseMcs rfl rfl ?_
      unfold State.serve
      split <;> rfl
    · exact start
  case msckRisingEdge =>
    cases h
    split
    · exact start.clockEdge _ rfl
    · exact start
  case unknownCommand =>
    cases h
    split
    · exact start.serve start _ _
    · exact start
  case popReport => cases h; exact served Effects.refl.popReport _ _
  case mapPreset => cases h; exact served (Effects.refl.mapPreset _) _ _
  case unmapSlot => cases h; exact served (Effects.refl.unmapSlot _) _ _
  case migrate => cases h; exact served (Effects.refl.migrate _) _ _
  case cancel => cases h; exact served (Effects.refl.cancel _) _ _
  case clearHealth => cases h; exact served (Effects.refl.removeHealth _) _ _
  case startSweep => cases h; exact served Effects.refl.startSweep _ _
  case adopt => cases h; exact served Effects.refl.adopt _ _
  case quiesce => cases h; exact served Effects.refl.quiesce _ _
  case resume => cases h; exact served Effects.refl.resume _ _
  case identify | readStatus => cases h; exact served .refl _ _
  case readSetting => cases h; exact served (by unfold State.runReadSetting; split <;> exact .refl) _ _
  case readSlot => cases h; exact served (by unfold State.runReadSlot; split <;> exact .refl) _ _
  case readHealth => cases h; exact served (by unfold State.runReadHealth; split <;> exact .refl) _ _
  case readMigration => cases h; exact served (by unfold State.runReadMigration; split <;> exact .refl) _ _
  case peekReport => cases h; exact served (by unfold State.runPeekReport; split <;> exact .refl) _ _
  all_goals
    cases h
    exact served (Effects.refl.writeSetting _ _ rfl) _ _

/-- A property of one state that does not read the model's queue, and that every elementary change keeps, is kept by every
step. -/
theorem step_keeps {P : State → Prop} (hqueue : ∀ s rest, P s → P { s with pending := rest })
    (heffect : ∀ c p u v, Effect c p u v → P u → P v) {s t : State} (hs : P s) (h : step s = .next t) : P t := by
  unfold step at h
  split at h
  · cases h
    exact heffect .identify s s _ (.port s { s.port with gap := false } fun hs => .inl hs) hs
  · exact (exec_effects h).keeps (heffect _ _) (hqueue _ _ hs)

end Sys2Proof.Machine
end

section
/-! SUPPORT. What a write of a setting leaves, said once. -/

namespace Sys2Proof.Machine

/-- What a write of a setting can leave: the state as it is, or one of the accepted writes, with what its tests have shown
(R87, R88, R110, R125, R126, R184). -/
inductive SettingWrite (s : State) (v : Nat) : State → Prop
  | refused : SettingWrite s v s
  | memoryLines (hm : s.mode = .uninit) (hlow : 12 ≤ v) (hhigh : v ≤ 19)
    (hview : s.activeHomeFrom (2 ^ v - s.settings.spareCount) = false) : SettingWrite s v (s.setMemoryLinesLog2 v)
  | spares (hm : s.mode = .uninit) (hhigh : v ≤ 64) (huse : (s.slots.drop v).any Slot.inUse = false)
    (hview : s.activeHomeFrom (s.memoryLines - v) = false) :
    SettingWrite s v { s with settings := { s.settings with spareCount := v }, slots := resizeSlots v 0 s.slots }
  | interval :
    SettingWrite s v
      { s with settings := { s.settings with patrolInterval := v }, patrol := { s.patrol with timer := 0 } }
  | debtLimit :
    SettingWrite s v
      { s with settings := { s.settings with debtLimit := v }, patrol := { s.patrol with debt := min s.patrol.debt v } }
  | health (threshold passes : Nat) (on : Bool) :
    SettingWrite s v
      { s with
        settings :=
          { s.settings with migrateThreshold := threshold, migrateOnUncorrectable := on, agePasses := passes } }
  | mask (mask : BitVec 10) :
    SettingWrite s v (State.evaluateAlert { s with settings := { s.settings with alertMask := mask } })

variable (s : State)

theorem State.putMemoryLinesLog2_write (k : Nat) : SettingWrite s k (s.putMemoryLinesLog2 k).2 := by
  unfold State.putMemoryLinesLog2
  split
  · exact .refused
  split
  · exact .refused
  split
  · exact .refused
  split
  · exact .refused
  · rename_i hmode hrange _ hview
    exact .memoryLines (not_not.mp hmode) (by omega) (by omega) (Bool.eq_false_iff.mpr hview)

theorem State.putSpareCount_write (n : Nat) : SettingWrite s n (s.putSpareCount n).2 := by
  unfold State.putSpareCount
  split
  · exact .refused
  split
  · exact .refused
  split
  · exact .refused
  split
  · exact .refused
  · rename_i hmode hrange huse hview
    exact .spares (not_not.mp hmode) (by omega) (Bool.eq_false_iff.mpr huse) (Bool.eq_false_iff.mpr hview)

theorem State.putSetting_write (identifier : Byte) (v : Nat) : SettingWrite s v (s.putSetting identifier v).2 := by
  unfold State.putSetting
  split
  · exact s.putMemoryLinesLog2_write v
  split
  · exact s.putSpareCount_write v
  split
  · exact .interval
  split
  · unfold State.putDebtLimit
    split
    · exact .refused
    · exact .debtLimit
  split
  · unfold State.putMigrateThreshold
    split
    · exact .refused
    · exact .health v _ _
  split
  · unfold State.putMigrateOnUncorrectable
    split
    · exact .refused
    · exact .health _ _ _
  split
  · unfold State.putAgePasses
    split
    · exact .refused
    · exact .health _ v _
  split
  · unfold State.putAlertMask
    split
    · exact .refused
    · exact .mask _
  · exact .refused

theorem SettingWrite.changes {s t : State} {v : Nat} (h : SettingWrite s v t) :
    t = { s with
      settings := t.settings
      patrol := t.patrol
      health := t.health
      slots := t.slots
      sweepLine := t.sweepLine
      sweepIndex := t.sweepIndex
      alert := t.alert } := by
  cases h <;> rfl

theorem State.putSetting_changes (identifier : Byte) (v : Nat) :
    (s.putSetting identifier v).2 = { s with
      settings := (s.putSetting identifier v).2.settings
      patrol := (s.putSetting identifier v).2.patrol
      health := (s.putSetting identifier v).2.health
      slots := (s.putSetting identifier v).2.slots
      sweepLine := (s.putSetting identifier v).2.sweepLine
      sweepIndex := (s.putSetting identifier v).2.sweepIndex
      alert := (s.putSetting identifier v).2.alert } :=
  (s.putSetting_write identifier v).changes

end Sys2Proof.Machine
end

section
/-! SUPPORT. The frames: the queue and the input lines (O3), the array (O4), the settings (O5). -/

namespace Sys2Proof.Machine

/-! ### The array, word by word -/

/-- A write is read back at its word, and every other word reads as before (R43). -/
theorem getCell_setCell (cells : List (Nat × StoredWord)) (a b : Nat) (w : StoredWord) :
    getCell (setCell cells a w) b = if b = a then some w else getCell cells b := by
  induction cells with
  | nil => simp [setCell, getCell, eq_comm]
  | cons x rest ih =>
    obtain ⟨k, v⟩ := x
    unfold setCell
    split
    · simp [getCell, eq_comm]
    · split
      · rename_i heq
        subst heq
        by_cases hb : b = a <;> simp [getCell, hb, Ne.symm]
      · rename_i hne
        by_cases hk : k = b
        · subst hk
          simp [getCell, Ne.symm hne]
        · simp [getCell, hk, ih]

/-- A word that loses its defined contents takes no other with it. -/
theorem getCell_dropCell_ne (cells : List (Nat × StoredWord)) {a b : Nat} (h : a ≠ b) :
    getCell (dropCell cells a) b = getCell cells b := by
  induction cells with
  | nil => rfl
  | cons x rest ih =>
    obtain ⟨k, v⟩ := x
    unfold dropCell
    split
    · simp [getCell, show k ≠ b by omega]
    · simp only [getCell, ih]

/-! ### What an elementary change leaves alone -/

section
variable {c : Instr} {p u v : State} (e : Effect c p u v)
include e

theorem Effect.pending : v.pending = u.pending := by
  cases e
  case setting => rw [State.putSetting_changes]
  all_goals simp [State.coldReset]

theorem Effect.hstb_of_not_moved (hc : movesHstb c = false) : v.hstb = u.hstb := by
  cases e
  case hstb hmoves => simp [hc] at hmoves
  case setting => rw [State.putSetting_changes]
  all_goals simp [State.coldReset]

theorem Effect.hreset_of_not_moved (hc : movesHreset c = false) : v.hreset = u.hreset := by
  cases e
  case hreset hmoves => simp [hc] at hmoves
  case setting => rw [State.putSetting_changes]
  all_goals simp [State.coldReset]

theorem Effect.poreset_of_not_moved (hc : movesPoreset c = false) : v.poreset = u.poreset := by
  cases e
  case poreset hmoves => simp [hc] at hmoves
  case setting => rw [State.putSetting_changes]
  all_goals simp [State.coldReset]

theorem Effect.mcs_of_not_moved (hc : movesMcs c = false) : v.mcs = u.mcs := by
  cases e
  case mcs hmoves => simp [hc] at hmoves
  case setting => rw [State.putSetting_changes]
  all_goals simp [State.coldReset]

theorem Effect.settings_of_not_written (hset : writesSettings c = false) (hcold : resetsCold c = false) :
    v.settings = u.settings := by
  cases e
  case setting hwrites => simp [hset] at hwrites
  case cold hresets _ => simp [hcold] at hresets
  all_goals simp

/-- A word that the access in progress does not name reads as before (R43, R58). -/
theorem Effect.getCell_of_ne {a : Nat} (ha : ∀ x, p.port.access = some x → x.word ≠ a) :
    getCell v.cells a = getCell u.cells a := by
  cases e
  case write x w hx => rw [getCell_setCell, if_neg (Ne.symm (ha x hx))]
  case cold _ hport =>
    change getCell u.cellsAfterColdReset a = _
    unfold State.cellsAfterColdReset
    split
    · rename_i x hx
      split
      · exact getCell_dropCell_ne _ (ha x (hport ▸ hx))
      · rfl
    · rfl
  case setting => rw [State.putSetting_changes]
  all_goals simp

end

/-! ### The obligations -/

/-- Settles O3: no elementary change touches the queue, and each line's level has changes of its own. -/
theorem linesAndQueueFrame : Obligations.LinesAndQueueFrame := by
  intro c s t h
  have chain := exec_effects h
  refine ⟨?pending, ?hstb, ?hreset, ?poreset, ?mcs⟩
  case pending => exact chain.keeps (P := fun u => u.pending = s.pending) (fun u v e hu => e.pending.trans hu) rfl
  case hstb =>
    intro hstrobe hdeassert
    have hc : movesHstb c = false := by
      cases c
      case hostStrobe a w e d => exact absurd rfl (hstrobe a w e d)
      case hstbDeassert => exact absurd rfl hdeassert
      all_goals rfl
    exact chain.keeps (P := fun u => u.hstb = s.hstb) (fun u v e hu => (e.hstb_of_not_moved hc).trans hu) rfl
  case hreset =>
    intro hassert hdeassert
    have hc : movesHreset c = false := by
      cases c
      case hresetAssert => exact absurd rfl hassert
      case hresetDeassert => exact absurd rfl hdeassert
      all_goals rfl
    exact chain.keeps (P := fun u => u.hreset = s.hreset) (fun u v e hu => (e.hreset_of_not_moved hc).trans hu) rfl
  case poreset =>
    intro hassert hdeassert
    have hc : movesPoreset c = false := by
      cases c
      case poresetAssert => exact absurd rfl hassert
      case poresetDeassert => exact absurd rfl hdeassert
      all_goals rfl
    exact chain.keeps (P := fun u => u.poreset = s.poreset) (fun u v e hu => (e.poreset_of_not_moved hc).trans hu) rfl
  case mcs =>
    intro hbegin hend hcold
    have hc : movesMcs c = false := by
      cases c
      case frameBegin => exact absurd rfl hbegin
      case frameEnd => exact absurd rfl hend
      case resetCold => exact absurd rfl hcold
      all_goals rfl
    exact chain.keeps (P := fun u => u.mcs = s.mcs) (fun u v e hu => (e.mcs_of_not_moved hc).trans hu) rfl

/-- Settles O4: the one word that a command can write or break off is the word of the access that it meets. -/
theorem arrayFrame : Obligations.ArrayFrame := by
  refine ⟨fun x => by cases x <;> rfl, ?_⟩
  intro c s t a h ha
  exact (exec_effects h).keeps (P := fun u => getCell u.cells a = getCell s.cells a)
    (fun u v e hu => (e.getCell_of_ne ha).trans hu) rfl

/-- Settles O5: only a write of a setting and a cold reset change the settings. -/
theorem settingsFrame : Obligations.SettingsFrame := by
  intro c s t h hset hlines hspares hinterval hdebt hthreshold hon hage hmask hedge hporeset hcold hend
  have hw : writesSettings c = false := by
    cases c
    case writeSetting i v => exact absurd rfl (hset i v)
    case writeMemoryLinesLog2 v => exact absurd rfl (hlines v)
    case writeSpareCount v => exact absurd rfl (hspares v)
    case writePatrolInterval v => exact absurd rfl (hinterval v)
    case writeDebtLimit v => exact absurd rfl (hdebt v)
    case writeMigrateThreshold v => exact absurd rfl (hthreshold v)
    case writeMigrateOnUncorrectable v => exact absurd rfl (hon v)
    case writeAgePasses v => exact absurd rfl (hage v)
    case writeAlertMask v => exact absurd rfl (hmask v)
    case msckRisingEdge b => exact absurd rfl (hedge b)
    all_goals rfl
  have hr : resetsCold c = false := by
    cases c
    case poresetAssert => exact absurd rfl hporeset
    case resetCold => exact absurd rfl hcold
    case frameEnd => exact absurd rfl hend
    all_goals rfl
  exact (exec_effects h).keeps (P := fun u => u.settings = s.settings)
    (fun u v e hu => (e.settings_of_not_written hw hr).trans hu) rfl

end Sys2Proof.Machine
end

section
/-! SUPPORT. The invariants that every elementary change keeps, each with the rules about the lists that it speaks of: the array's
form (O7), the Report Queue (O6), the patrol's bounds (O8) and the Line Health Table (O10). -/

namespace Sys2Proof.Machine

/-! ### The array's form -/

theorem Effect.keeps_arrayForm {c : Instr} {p u v : State} (e : Effect c p u v) (h : u.ArraySound) : v.ArraySound := by
  unfold State.ArraySound at h ⊢
  cases e
  case write => exact cellsWf_setCell _ _ h
  case cold => exact u.cellsAfterColdReset_wf h
  case setting => rw [State.putSetting_changes]; exact h
  all_goals simpa using h

/-- Settles O7: a write and a broken-off access keep the array's form, and nothing else touches it. -/
theorem arrayFormKept : Obligations.ArrayFormKept := fun _ _ hs h =>
  step_keeps (fun _ _ hP => hP) (fun _ _ _ _ e => e.keeps_arrayForm) hs h

/-! ### The Report Queue: records at the tail -/

theorem tailIsLost_concat (front : List ReportRecord) (r : ReportRecord) :
    tailIsLost (front ++ [r]) = r.report.isLost := by
  simp [tailIsLost]

theorem tailIsLost_cons_cons (a b : ReportRecord) (rest : List ReportRecord) :
    tailIsLost (a :: b :: rest) = tailIsLost (b :: rest) := by
  simp [tailIsLost, List.getLast?_cons_cons]

theorem noAdjacentLost_concat (front : List ReportRecord) (r : ReportRecord) :
    noAdjacentLost (front ++ [r]) = (noAdjacentLost front && !(tailIsLost front && r.report.isLost)) := by
  induction front with
  | nil => simp [noAdjacentLost, tailIsLost]
  | cons a rest ih =>
    cases rest with
    | nil => simp [noAdjacentLost, tailIsLost]
    | cons b rest =>
      simp only [List.cons_append] at ih ⊢
      simp only [noAdjacentLost, ih, tailIsLost_cons_cons, Bool.and_assoc]

/-- A record that takes the counter's value goes on with the numbering (R176). -/
theorem numberedUpTo_concat (next : Sequence) (front : List ReportRecord) (r : ReportRecord) :
    numberedUpTo (next + 1) (front ++ [r]) = (numberedUpTo next front && r.sequence == next) := by
  induction front with
  | nil => simp [numberedUpTo]
  | cons a rest ih =>
    have shift : a.sequence + BitVec.ofNat 16 ((rest ++ [r]).length + 1) == next + 1
        ↔ a.sequence + BitVec.ofNat 16 (rest.length + 1) == next := by
      rw [beq_iff_eq, beq_iff_eq, List.length_append, List.length_singleton,
        BitVec.ofNat_add (rest.length + 1) 1, ← BitVec.add_assoc]
      exact add_left_inj (1#16)
    simp only [List.cons_append, numberedUpTo, ih, Bool.and_assoc, Bool.eq_iff_iff.mpr shift]

theorem numberedUpTo_congr_concat (next : Sequence) (front : List ReportRecord) {r r' : ReportRecord}
    (h : r'.sequence = r.sequence) : numberedUpTo next (front ++ [r']) = numberedUpTo next (front ++ [r]) := by
  have hn : next = (next - 1) + 1 := (BitVec.sub_add_cancel next 1).symm
  rw [hn, numberedUpTo_concat, numberedUpTo_concat, h]

/-! ### The Report Queue: what a report handed to it becomes -/

theorem alertCondition_concat (mask : BitVec 10) (front : List ReportRecord) (r : ReportRecord) :
    alertCondition mask (front ++ [r]) =
      (alertCondition mask front || (r.report.isLost || mask.getLsbD (r.report.code - 1))) := by
  simp [alertCondition]

/-- A record other than LOST next to any tail, or LOST next to another, keeps the queue sound (R176, R178). -/
theorem State.pushReport_sound (s : State) {r : Report} (h : s.ReportsSound) (hcount : r.countOk = true)
    (hlen : s.reports.length < 16) (hfull : s.reports.length = 15 → r.isLost = true)
    (hnext : tailIsLost s.reports = true → r.isLost = false) : (s.pushReport r).ReportsSound where
  atMost16 := by simp; omega
  fullEndsInLost := by
    intro hl
    rw [State.pushReport_reports, tailIsLost_concat]
    exact hfull (by simpa using hl)
  noAdjacent := by
    rw [State.pushReport_reports, noAdjacentLost_concat, h.noAdjacent]
    cases htail : tailIsLost s.reports
    · rfl
    · simp [hnext htail]
  numbered := by
    rw [State.pushReport_reports, State.pushReport_sequence, numberedUpTo_concat, h.numbered]
    simp
  counts := by
    intro x hx
    rcases List.mem_append.mp hx with hx | hx
    · exact h.counts x hx
    · rw [List.mem_singleton.mp hx]; exact hcount
  alertFollows := rfl

/-- One count more on a LOST record at the tail keeps the queue sound, and asks nothing new of ALERT (R178, R183). -/
theorem State.countAtTail_sound (s : State) (h : s.ReportsSound) (htail : tailIsLost s.reports = true) :
    ({ s with reports := countAtTail s.reports } : State).ReportsSound := by
  rcases List.eq_nil_or_concat' s.reports with hnil | ⟨front, last, hlast⟩
  · simp [hnil, tailIsLost] at htail
  rw [hlast, tailIsLost_concat] at htail
  obtain ⟨n, hn⟩ : ∃ n, last.report = .lost n := by
    cases hreport : last.report <;> simp_all [Report.isLost]
  have hbumped : countAtTail s.reports = front ++ [{ last with report := .lost (min 255 (n + 1)) }] := by
    simp [countAtTail, hlast, bumpLost, hn]
  rw [hbumped]
  have hold := h.noAdjacent
  rw [hlast, noAdjacentLost_concat, hn] at hold
  refine ⟨?_, ?_, ?_, ?_, ?_, ?_⟩
  · have := h.atMost16
    simpa [hlast] using this
  · intro _
    rw [tailIsLost_concat]
    rfl
  · rw [noAdjacentLost_concat]
    exact hold
  · have := h.numbered
    rw [hlast] at this
    rw [← this]
    exact numberedUpTo_congr_concat _ _ rfl
  · intro x hx
    rcases List.mem_append.mp hx with hx | hx
    · exact h.counts x (hlast ▸ List.mem_append_left _ hx)
    · rw [List.mem_singleton.mp hx]
      simp [Report.countOk]
  · have := h.alertFollows
    rw [hlast, alertCondition_concat, hn] at this
    rw [alertCondition_concat]
    exact this

theorem State.append_sound (s : State) {r : Report} (h : s.ReportsSound) (hr : r.isLost = false) :
    (s.append r).ReportsSound := by
  have hcount : r.countOk = true := by cases r <;> simp_all [Report.countOk, Report.isLost]
  unfold State.append
  split
  · exact s.pushReport_sound h hcount (by omega) (by omega) fun _ => hr
  · split
    · exact s.countAtTail_sound h ‹_›
    · rename_i htail
      split
      · exact s.pushReport_sound h rfl (by omega) (fun _ => rfl) fun hlost => absurd hlost htail
      · exact h

/-- The queue without its head record stays sound, with ALERT re-evaluated (R182, R183). -/
theorem State.popReport_sound (s : State) {r : ReportRecord} {rest : List ReportRecord} (h : s.ReportsSound)
    (hr : s.reports = r :: rest) : (State.evaluateAlert { s with reports := rest }).ReportsSound := by
  have hlen := h.atMost16
  have hadjacent := h.noAdjacent
  have hnumbered := h.numbered
  rw [hr] at hlen hadjacent hnumbered
  simp only [numberedUpTo, Bool.and_eq_true] at hnumbered
  refine ⟨?_, ?_, ?_, hnumbered.2, fun x hx => h.counts x (hr ▸ List.mem_cons_of_mem _ hx), rfl⟩
  · change rest.length ≤ 16
    simp at hlen
    omega
  · change rest.length = 16 → _
    intro hfull
    simp at hlen
    omega
  · cases rest with
    | nil => rfl
    | cons b rest =>
      simp only [noAdjacentLost, Bool.and_eq_true] at hadjacent
      exact hadjacent.2

theorem State.ReportsSound.of_eq {s t : State} (h : s.ReportsSound) (hr : t.reports = s.reports)
    (hs : t.sequence = s.sequence) (ha : t.alert = s.alert) (hm : t.settings.alertMask = s.settings.alertMask) :
    t.ReportsSound where
  atMost16 := hr ▸ h.atMost16
  fullEndsInLost := hr ▸ h.fullEndsInLost
  noAdjacent := hr ▸ h.noAdjacent
  numbered := by rw [hr, hs]; exact h.numbered
  counts := hr ▸ h.counts
  alertFollows := by rw [hr, ha, hm]; exact h.alertFollows

/-- ALERT re-evaluated under any mask follows the records again (R183, R184). -/
theorem State.ReportsSound.reevaluated {s t : State} (h : s.ReportsSound) (hr : t.reports = s.reports)
    (hs : t.sequence = s.sequence) (ha : t.alert = alertCondition t.settings.alertMask t.reports) : t.ReportsSound where
  atMost16 := hr ▸ h.atMost16
  fullEndsInLost := hr ▸ h.fullEndsInLost
  noAdjacent := hr ▸ h.noAdjacent
  numbered := by rw [hr, hs]; exact h.numbered
  counts := hr ▸ h.counts
  alertFollows := ha

theorem State.reset_reportsSound : State.reset.ReportsSound :=
  ⟨by decide, by decide, by decide, by decide, by decide, by decide⟩

theorem SettingWrite.keeps_reports {s t : State} {v : Nat} (hw : SettingWrite s v t) (h : s.ReportsSound) :
    t.ReportsSound := by
  cases hw
  case mask => exact h.reevaluated rfl rfl rfl
  all_goals exact h.of_eq rfl rfl rfl rfl

theorem Effect.keeps_reports {c : Instr} {p u v : State} (e : Effect c p u v) (h : u.ReportsSound) :
    v.ReportsSound := by
  cases e
  case report r hr => exact u.append_sound h hr
  case pop hr => exact u.popReport_sound h hr
  case setting identifier n _ => exact (u.putSetting_write identifier n).keeps_reports h
  case cold => exact State.reset_reportsSound.of_eq rfl rfl rfl rfl
  all_goals exact h.of_eq rfl rfl rfl rfl

/-- Settles O6: only an append, a POP_REPORT and a write of ALERT_MASK touch the queue or ALERT, and each keeps the two
together. -/
theorem reportQueueKept : Obligations.ReportQueueKept := fun _ _ hs h =>
  step_keeps (fun _ _ hP => hP.of_eq rfl rfl rfl rfl) (fun _ _ _ _ e => e.keeps_reports) hs h

/-! ### The patrol's bounds -/

theorem State.PatrolSound.of_eq {s t : State} (h : s.PatrolSound) (hp : t.patrol = s.patrol)
    (hs : t.settings = s.settings) (hm : t.mode = s.mode) (hst : t.starvation = s.starvation) : t.PatrolSound where
  lineFitted := by rw [hp, State.memoryLines, hs]; exact h.lineFitted
  indexInLine := hp ▸ h.indexInLine
  debtAtMostLimit := by rw [hp, hs]; exact h.debtAtMostLimit
  restsOutsideNormal := by rw [hp, hm]; exact h.restsOutsideNormal
  timerBelowInterval := by rw [hp, hs]; exact h.timerBelowInterval
  starvationAtMost16 := hst ▸ h.starvationAtMost16

theorem State.reset_patrolSound : State.reset.PatrolSound :=
  ⟨by decide, by decide, by decide, by decide, by decide, by decide⟩

theorem SettingWrite.keeps_patrol {s t : State} {v : Nat} (hw : SettingWrite s v t) (h : s.PatrolSound) :
    t.PatrolSound := by
  cases hw
  case refused => exact h
  case memoryLines =>
    by_cases hline : s.patrol.line < 2 ^ v
    · have hp : (s.setMemoryLinesLog2 v).patrol = s.patrol := by simp [State.setMemoryLinesLog2, hline]
      exact ⟨hp ▸ hline, hp ▸ h.indexInLine, hp ▸ h.debtAtMostLimit, hp ▸ h.restsOutsideNormal, hp ▸ h.timerBelowInterval,
        h.starvationAtMost16⟩
    · have hp : (s.setMemoryLinesLog2 v).patrol = { s.patrol with line := 0, index := 0 } := by
        simp [State.setMemoryLinesLog2, hline]
      exact ⟨hp ▸ Nat.two_pow_pos v, hp ▸ Nat.zero_le 7, hp ▸ h.debtAtMostLimit, hp ▸ h.restsOutsideNormal,
        hp ▸ h.timerBelowInterval, h.starvationAtMost16⟩
  case spares | health | mask =>
    exact ⟨h.lineFitted, h.indexInLine, h.debtAtMostLimit, h.restsOutsideNormal, h.timerBelowInterval, h.starvationAtMost16⟩
  case interval =>
    exact ⟨h.lineFitted, h.indexInLine, h.debtAtMostLimit, fun hm => ⟨(h.restsOutsideNormal hm).1, rfl⟩, .inl rfl,
      h.starvationAtMost16⟩
  case debtLimit =>
    refine ⟨h.lineFitted, h.indexInLine, Nat.min_le_right .., fun hm => ?_, h.timerBelowInterval, h.starvationAtMost16⟩
    obtain ⟨hdebt, htimer⟩ := h.restsOutsideNormal hm
    exact ⟨by simp [hdebt], htimer⟩

theorem Effect.keeps_patrol {c : Instr} {p u v : State} (e : Effect c p u v) (h : u.PatrolSound) : v.PatrolSound := by
  cases e
  case starvation n hn =>
    exact ⟨h.lineFitted, h.indexInLine, h.debtAtMostLimit, h.restsOutsideNormal, h.timerBelowInterval, hn⟩
  case cursor hline hindex =>
    exact ⟨hline h.lineFitted, hindex, h.debtAtMostLimit, h.restsOutsideNormal, h.timerBelowInterval, h.starvationAtMost16⟩
  case count debt timer hdebt htimer =>
    have hlimit := h.debtAtMostLimit
    have hinterval := h.timerBelowInterval
    refine ⟨h.lineFitted, h.indexInLine, ?_, fun hm => ?_, ?_, h.starvationAtMost16⟩
    · change debt ≤ u.settings.debtLimit
      omega
    · change u.mode ≠ .normal at hm
      obtain ⟨hd, ht⟩ := h.restsOutsideNormal hm
      have hdebt' := hdebt.resolve_right fun x => hm x.1
      change debt = 0 ∧ timer = 0
      refine ⟨by omega, ?_⟩
      rcases htimer with rfl | rfl | ⟨hn, -⟩
      · exact ht
      · rfl
      · exact absurd hn hm
    · change timer = 0 ∨ timer < u.settings.patrolInterval
      omega
  case mode m hm _ _ _ =>
    refine ⟨h.lineFitted, h.indexInLine, h.debtAtMostLimit, fun hne => ?_, h.timerBelowInterval, h.starvationAtMost16⟩
    exact (hm hne).elim h.restsOutsideNormal id
  case setting identifier n _ => exact (u.putSetting_write identifier n).keeps_patrol h
  case sweepEnd =>
    exact ⟨h.lineFitted, h.indexInLine, Nat.zero_le _, fun hm => absurd rfl hm, .inl rfl, h.starvationAtMost16⟩
  case cold => exact State.reset_patrolSound.of_eq rfl rfl rfl rfl
  case report => exact h.of_eq (by simp) (by simp) (by simp) (by simp)
  all_goals exact h.of_eq rfl rfl rfl rfl

/-- Settles O8: the cursor's search stays in the array, debt and timer count in NORMAL alone, and every entry to another mode
finds them at 0. -/
theorem patrolBoundsKept : Obligations.PatrolBoundsKept := fun _ _ hs h =>
  step_keeps (fun _ _ hP => hP.of_eq rfl rfl rfl rfl) (fun _ _ _ _ e => e.keeps_patrol) hs h

/-! ### The Line Health Table -/

/-- The lines of the entries that some places hold, in their order. -/
def linesOf (places : List (Option HealthEntry)) : List Nat := places.filterMap (Option.map HealthEntry.line)

theorem State.healthLines_eq (s : State) : s.healthLines = linesOf s.health := rfl

theorem mem_linesOf {places : List (Option HealthEntry)} {line : Nat} :
    line ∈ linesOf places ↔ ∃ e, some e ∈ places ∧ e.line = line := by
  simp [linesOf, List.mem_filterMap]

theorem linesOf_map {f : HealthEntry → HealthEntry} (hf : ∀ e, (f e).line = e.line)
    (places : List (Option HealthEntry)) : linesOf (places.map (Option.map f)) = linesOf places := by
  rw [linesOf, List.filterMap_map]
  congr 1
  funext place
  cases place <;> simp [hf]

/-- The entries that stay keep their order (R94). -/
theorem linesOf_filter_sublist (keep : HealthEntry → Bool) (places : List (Option HealthEntry)) :
    (linesOf (places.map fun place => place.filter keep)).Sublist (linesOf places) := by
  induction places with
  | nil => exact List.Sublist.refl _
  | cons place rest ih =>
    cases place with
    | none => simpa [linesOf] using ih
    | some e =>
      by_cases hk : keep e = true
      · simpa [linesOf, hk, Option.filter] using ih
      · simpa [linesOf, hk, Option.filter] using ih.cons _

theorem mem_linesOf_set {places : List (Option HealthEntry)} {i line : Nat} {e : HealthEntry}
    (h : line ∈ linesOf (places.set i (some e))) : line = e.line ∨ line ∈ linesOf places := by
  obtain ⟨x, hx, rfl⟩ := mem_linesOf.mp h
  rcases List.mem_or_eq_of_mem_set hx with hx | hx
  · exact .inr (mem_linesOf.mpr ⟨x, hx, rfl⟩)
  · cases hx
    exact .inl rfl

/-- A new line in any place leaves no line twice (R94). -/
theorem linesOf_set_nodup {places : List (Option HealthEntry)} (h : (linesOf places).Nodup) (i : Nat) {e : HealthEntry}
    (he : e.line ∉ linesOf places) : (linesOf (places.set i (some e))).Nodup := by
  induction places generalizing i with
  | nil => exact h
  | cons place rest ih =>
    have hrest : (linesOf rest).Nodup ∧ e.line ∉ linesOf rest := by
      cases place <;> simp_all [linesOf]
    cases i with
    | zero => simpa [linesOf] using hrest.symm
    | succ i =>
      have tail := ih hrest.1 i hrest.2
      cases place with
      | none => exact tail
      | some x =>
        obtain ⟨hx, -⟩ : x.line ∉ linesOf rest ∧ (linesOf rest).Nodup := List.nodup_cons.mp h
        have hne : e.line ≠ x.line := fun heq => he (heq ▸ List.mem_cons_self ..)
        refine List.nodup_cons.mpr ⟨fun hmem => ?_, tail⟩
        rcases mem_linesOf_set hmem with heq | hmem
        · exact hne heq.symm
        · exact hx hmem

/-- A line has no entry where no place holds it (R94). -/
theorem State.healthEntry_eq_none_iff (s : State) (line : Nat) :
    s.healthEntry line = none ↔ line ∉ linesOf s.health := by
  unfold State.healthEntry
  constructor
  · intro h hmem
    obtain ⟨e, he, hline⟩ := mem_linesOf.mp hmem
    cases hfind : s.health.find? (holdsLine line) with
    | none => simpa [holdsLine, hline] using List.find?_eq_none.mp hfind _ he
    | some place =>
      have hholds := List.find?_some hfind
      rw [hfind] at h
      cases place with
      | none => simp [holdsLine] at hholds
      | some x => simp at h
  · intro h
    have hfind : s.health.find? (holdsLine line) = none := by
      rw [List.find?_eq_none]
      intro place hplace hholds
      cases place with
      | none => simp [holdsLine] at hholds
      | some x => exact h (mem_linesOf.mpr ⟨x, hplace, by simpa [holdsLine] using hholds⟩)
    simp [hfind]

/-- The bound on the counts, place by place. -/
theorem counts_iff (places : List (Option HealthEntry)) :
    (∀ e ∈ places.filterMap id, e.count ≤ 255) ↔ ∀ e, some e ∈ places → e.count ≤ 255 := by
  simp [List.mem_filterMap]

theorem State.HealthSound.of_eq {s t : State} (h : s.HealthSound) (ht : t.health = s.health) : t.HealthSound where
  places := ht ▸ h.places
  oneEntryPerLine := by rw [State.healthLines_eq, ht]; exact h.oneEntryPerLine
  counts := ht ▸ h.counts

theorem State.HealthSound.map_entries {s t : State} (h : s.HealthSound) {f : HealthEntry → HealthEntry}
    (hline : ∀ e, (f e).line = e.line) (hcount : ∀ e, e.count ≤ 255 → (f e).count ≤ 255)
    (ht : t.health = s.health.map (Option.map f)) : t.HealthSound where
  places := by rw [ht, List.length_map]; exact h.places
  oneEntryPerLine := by rw [State.healthLines_eq, ht, linesOf_map hline]; exact h.oneEntryPerLine
  counts := by
    rw [ht, counts_iff]
    intro e he
    obtain ⟨place, hplace, hmap⟩ := List.mem_map.mp he
    obtain ⟨x, rfl, rfl⟩ := Option.map_eq_some_iff.mp hmap
    exact hcount x ((counts_iff _).mp h.counts x hplace)

theorem State.HealthSound.filter_entries {s t : State} (h : s.HealthSound) {keep : HealthEntry → Bool}
    (ht : t.health = s.health.map fun place => place.filter keep) : t.HealthSound where
  places := by rw [ht, List.length_map]; exact h.places
  oneEntryPerLine := by
    rw [State.healthLines_eq, ht]
    exact h.oneEntryPerLine.sublist (linesOf_filter_sublist keep s.health)
  counts := by
    rw [ht, counts_iff]
    intro e he
    obtain ⟨place, hplace, hfilter⟩ := List.mem_map.mp he
    obtain ⟨hx, -⟩ := Option.filter_eq_some_iff.mp hfilter
    exact (counts_iff _).mp h.counts e (hx ▸ hplace)

theorem State.HealthSound.set_entry {s t : State} (h : s.HealthSound) {i : Nat} {e : HealthEntry}
    (hnew : s.healthEntry e.line = none) (hcount : e.count ≤ 255) (ht : t.health = s.health.set i (some e)) :
    t.HealthSound where
  places := by rw [ht, List.length_set]; exact h.places
  oneEntryPerLine := by
    rw [State.healthLines_eq, ht]
    exact linesOf_set_nodup h.oneEntryPerLine i ((s.healthEntry_eq_none_iff e.line).mp hnew)
  counts := by
    rw [ht, counts_iff]
    intro x hx
    rcases List.mem_or_eq_of_mem_set hx with hx | hx
    · exact (counts_iff _).mp h.counts x hx
    · cases hx
      exact hcount

theorem State.reset_healthSound : State.reset.HealthSound := ⟨by decide, by decide, by decide⟩

theorem SettingWrite.keeps_health {s t : State} {v : Nat} (hw : SettingWrite s v t) (h : s.HealthSound) :
    t.HealthSound := by
  cases hw
  case memoryLines => exact h.filter_entries rfl
  all_goals exact h.of_eq rfl

theorem Effect.keeps_health {c : Instr} {p u v : State} (e : Effect c p u v) (h : u.HealthSound) : v.HealthSound := by
  cases e
  case entries hline hcount => exact h.map_entries hline hcount rfl
  case forget => exact h.filter_entries rfl
  case newEntry hnew hcount => exact h.set_entry hnew hcount rfl
  case setting identifier n _ => exact (u.putSetting_write identifier n).keeps_health h
  case cold => exact State.reset_healthSound.of_eq rfl
  case report => exact h.of_eq (by simp)
  all_goals exact h.of_eq rfl

/-- Settles O10: entries are changed in place, removed, or made for a line that has none. -/
theorem healthTableKept : Obligations.HealthTableKept := fun _ _ hs h =>
  step_keeps (fun _ _ hP => hP.of_eq rfl) (fun _ _ _ _ e => e.keeps_health) hs h

end Sys2Proof.Machine
end

section
/-! SUPPORT. The Substitution Map's records and the migration queue (O11): what each change of a slot leaves of the homes held,
and that every elementary change keeps the map, the queue and the context in agreement. -/

namespace Sys2Proof.Machine

/-! ### The homes that the slots hold -/

/-- The home line of each slot that is ACTIVE, in the order of the slots. -/
def homesHeld (slots : List Slot) : List (Option Nat) := slots.map Slot.activeHome

theorem activeFor_eq (home : Nat) (slot : Slot) : slot.activeFor home = (slot.activeHome == some home) := by
  cases slot <;> simp [Slot.activeFor, Slot.activeHome]

theorem State.activeHomes_eq (s : State) : s.activeHomes = (homesHeld s.slots).reduceOption := by
  rw [State.activeHomes, homesHeld, List.reduceOption, List.filterMap_map]
  rfl

theorem State.activeSlot_eq (s : State) (home : Nat) :
    s.activeSlot home = (homesHeld s.slots).findIdx? (· == some home) := by
  rw [State.activeSlot, homesHeld, List.findIdx?_map]
  congr 1
  funext slot
  exact activeFor_eq home slot

theorem homesHeld_set (slots : List Slot) (n : Nat) (slot : Slot) :
    homesHeld (slots.set n slot) = (homesHeld slots).set n slot.activeHome := List.map_set

theorem getElem?_homesHeld (slots : List Slot) (i : Nat) :
    (homesHeld slots)[i]? = slots[i]?.map Slot.activeHome := List.getElem?_map ..

/-- A change of a slot that is ACTIVE neither before nor after leaves the homes as they were. -/
theorem homesHeld_set_same {slots : List Slot} {n : Nat} {old slot : Slot} (hold : slots[n]? = some old)
    (h : slot.activeHome = old.activeHome) : homesHeld (slots.set n slot) = homesHeld slots := by
  have hn : n < (homesHeld slots).length := by
    rw [homesHeld, List.length_map]
    exact (List.getElem?_eq_some_iff.mp hold).1
  have hsame : (homesHeld slots)[n]? = some slot.activeHome := by rw [getElem?_homesHeld, hold, h]; rfl
  rw [homesHeld_set, ← (List.getElem?_eq_some_iff.mp hsame).2]
  exact List.set_getElem_self hn

theorem nodup_reduceOption_iff {α : Type} (l : List (Option α)) :
    l.reduceOption.Nodup ↔ ∀ (i j : Nat) (a : α), l[i]? = some (some a) → l[j]? = some (some a) → i = j := by
  induction l with
  | nil => simp
  | cons x rest ih =>
    have htail : (∀ (i j : Nat) (a : α), (x :: rest)[i]? = some (some a) → (x :: rest)[j]? = some (some a) → i = j) →
        rest.reduceOption.Nodup := fun h => ih.mpr fun i j a hi hj => by simpa using h (i + 1) (j + 1) a hi hj
    cases x with
    | none =>
      rw [List.reduceOption_cons_of_none]
      refine ⟨fun h i j a hi hj => ?_, htail⟩
      cases i with
      | zero => cases hi
      | succ i =>
        cases j with
        | zero => cases hj
        | succ j => rw [ih.mp h i j a hi hj]
    | some y =>
      have hmem : y ∈ rest.reduceOption ↔ ∃ i : Nat, rest[i]? = some (some y) := by
        rw [List.reduceOption_mem_iff, List.mem_iff_getElem?]
      rw [List.reduceOption_cons_of_some, List.nodup_cons, hmem]
      constructor
      · rintro ⟨hy, h⟩ i j a hi hj
        cases i with
        | zero =>
          cases hi
          cases j with
          | zero => rfl
          | succ j => exact absurd ⟨j, hj⟩ hy
        | succ i =>
          cases j with
          | zero => cases hj; exact absurd ⟨i, hi⟩ hy
          | succ j => rw [ih.mp h i j a hi hj]
      · intro h
        exact ⟨fun ⟨i, hi⟩ => absurd (h 0 (i + 1) y rfl hi) (by omega), htail h⟩

/-- Each home line is held by one slot at most (R116), slot by slot. -/
theorem State.activeHomes_nodup_iff (s : State) :
    s.activeHomes.Nodup ↔ ∀ (i j home : Nat), (homesHeld s.slots)[i]? = some (some home) →
      (homesHeld s.slots)[j]? = some (some home) → i = j := by
  rw [State.activeHomes_eq, nodup_reduceOption_iff]

theorem State.mem_activeHomes (s : State) (home : Nat) :
    home ∈ s.activeHomes ↔ ∃ i : Nat, (homesHeld s.slots)[i]? = some (some home) := by
  rw [State.activeHomes_eq, List.reduceOption_mem_iff, List.mem_iff_getElem?]

theorem State.activeSlot_eq_none_iff (s : State) (home : Nat) : s.activeSlot home = none ↔ home ∉ s.activeHomes := by
  rw [State.activeSlot_eq, List.findIdx?_eq_none_iff, State.activeHomes_eq, List.reduceOption_mem_iff]
  simp only [beq_eq_false_iff_ne]
  exact ⟨fun h hmem => h _ hmem rfl, fun h x hx heq => h (heq ▸ hx)⟩

/-- Which slot serves a home line, and where it is found, turn on the homes held and on POOL_BASE alone. -/
theorem State.activeSlot_of_homes {s t : State} (h : homesHeld t.slots = homesHeld s.slots) (home : Nat) :
    t.activeSlot home = s.activeSlot home := by
  rw [State.activeSlot_eq, State.activeSlot_eq, h]

theorem State.translate_of_homes {s t : State} (h : homesHeld t.slots = homesHeld s.slots) (hbase : t.poolBase = s.poolBase)
    (home : Nat) : t.translate home = s.translate home := by
  rw [State.translate, State.translate, State.activeSlot_of_homes h, hbase]

theorem State.home_of_activeSlot {s : State} {home i : Nat} (h : s.activeSlot home = some i) :
    (homesHeld s.slots)[i]? = some (some home) := by
  rw [State.activeSlot_eq] at h
  obtain ⟨hi, hhome, -⟩ := List.findIdx?_eq_some_iff_getElem.mp h
  rw [List.getElem?_eq_getElem hi, beq_iff_eq.mp hhome]

/-- Which slots are MIGRATING, slot by slot. -/
theorem State.migratingSlots_eq_iff (s : State) (target : Option Nat) :
    s.migratingSlots = target.toList ↔ ∀ i, s.slots[i]?.any Slot.isMigrating = true ↔ target = some i := by
  have hnodup : s.migratingSlots.Nodup := List.nodup_range.filter _
  have hmem (i : Nat) : i ∈ s.migratingSlots ↔ s.slots[i]?.any Slot.isMigrating = true := by
    simp only [State.migratingSlots, List.mem_filter, List.mem_range, and_iff_right_iff_imp]
    intro h
    by_contra hge
    simp [List.getElem?_eq_none (Nat.le_of_not_lt hge)] at h
  constructor
  · intro h i
    rw [← hmem, h]
    cases target <;> simp [eq_comm]
  · intro h
    cases target with
    | none => exact List.eq_nil_iff_forall_not_mem.mpr fun i hi => by simpa using (h i).mp ((hmem i).mp hi)
    | some t =>
      refine List.perm_singleton.mp ((List.perm_ext_iff_of_nodup hnodup (List.nodup_singleton t)).mpr fun i => ?_)
      rw [hmem, h]
      simp [eq_comm]

theorem getElem?_resizeSlots (n : Nat) (slots : List Slot) (i j : Nat) :
    (resizeSlots n i slots)[j]? =
      slots[j]?.map fun slot => if n ≤ i + j then .absent else if slot = .absent then .free else slot := by
  induction slots generalizing i j with
  | nil => simp [resizeSlots]
  | cons slot rest ih =>
    cases j with
    | zero => simp [resizeSlots]
    | succ j =>
      simp only [resizeSlots, List.getElem?_cons_succ, ih]
      rw [show i + 1 + j = i + (j + 1) by omega]

theorem length_resizeSlots (n i : Nat) (slots : List Slot) : (resizeSlots n i slots).length = slots.length := by
  induction slots generalizing i with
  | nil => rfl
  | cons slot rest ih => simp [resizeSlots, ih]

/-- Where no slot at or above the new SPARE_COUNT is in use, resizing the pool leaves the homes as they were (R125). -/
theorem homesHeld_resizeSlots {n : Nat} {slots : List Slot} (h : (slots.drop n).any Slot.inUse = false) :
    homesHeld (resizeSlots n 0 slots) = homesHeld slots := by
  apply List.ext_getElem?
  intro i
  rw [getElem?_homesHeld, getElem?_homesHeld, getElem?_resizeSlots, Nat.zero_add]
  cases hslot : slots[i]? with
  | none => rfl
  | some slot =>
    by_cases hn : n ≤ i
    · have hmem : slot ∈ slots.drop n := by
        refine List.mem_of_getElem? (i := i - n) ?_
        rw [List.getElem?_drop, show n + (i - n) = i by omega, hslot]
      have hidle : slot.inUse = false := by simpa using List.any_eq_false.mp h slot hmem
      cases slot <;> simp_all [Slot.inUse, Slot.activeHome]
    · cases slot <;> simp [hn, Slot.activeHome]

/-! ### The map, the queue and the context -/

theorem State.CopySound.of_eq {s t : State} {c : Copy} (h : s.CopySound c)
    (hhomes : homesHeld t.slots = homesHeld s.slots) (hbase : t.poolBase = s.poolBase)
    (htarget : t.slots[c.target]? = s.slots[c.target]?) : t.CopySound c where
  homeInView := hbase ▸ h.homeInView
  sourceOfRecord := by
    rw [State.translate_of_homes hhomes hbase, State.activeSlot_of_homes hhomes]
    exact h.sourceOfRecord
  target := htarget ▸ h.target
  cursorInLine := h.cursorInLine
  countsFit := h.countsFit

/-- A change that leaves the slots and the pool's settings alone, and the context's line, slots and counts sound. -/
theorem State.MapSound.of_eq {s t : State} (h : s.MapSound) (hslots : t.slots = s.slots)
    (hset : t.settings = s.settings) (hcopy : t.copy = s.copy) (hqueue : t.migrations = s.migrations)
    (hmode : t.mode = .uninit → t.migrations = []) : t.MapSound := by
  have hbase : t.poolBase = s.poolBase := by rw [State.poolBase, State.memoryLines, hset]; rfl
  exact
    { slots64 := hslots ▸ h.slots64
      linesRange := hset ▸ h.linesRange
      sparesRange := hset ▸ h.sparesRange
      absentAbove := by rw [hslots, hset]; exact h.absentAbove
      oneActivePerHome := by rw [State.activeHomes, hslots]; exact h.oneActivePerHome
      activeInView := by rw [State.activeHomes, hslots, hbase]; exact h.activeInView
      migratingIsTarget := by rw [State.migratingSlots, hslots, hcopy]; exact h.migratingIsTarget
      copySound := fun c hc => (h.copySound c (hcopy ▸ hc)).of_eq (by rw [hslots]) hbase (by rw [hslots])
      queueAtMost4 := hqueue ▸ h.queueAtMost4
      queueHomesDiffer := hqueue ▸ h.queueHomesDiffer
      queueInView := by rw [hqueue, hbase]; exact h.queueInView
      queueNotInFlight := by rw [hqueue, hcopy]; exact h.queueNotInFlight
      uninitQueueEmpty := hmode }

/-- The one MIGRATING slot is the target of the copy in flight, slot by slot. -/
theorem State.MapSound.migrating_iff {s : State} (h : s.MapSound) (i : Nat) :
    s.slots[i]?.any Slot.isMigrating = true ↔ s.copy.map Copy.target = some i :=
  (s.migratingSlots_eq_iff _).mp h.migratingIsTarget i

/-- Requests that leave the queue leave the rest sound (R137, R150, R155). -/
theorem State.MapSound.dropRequests {s : State} (h : s.MapSound) {rest : List MigrationRequest}
    (hrest : rest.Sublist s.migrations) : ({ s with migrations := rest } : State).MapSound :=
  { h with
    copySound := fun c hc => (h.copySound c hc).of_eq rfl rfl rfl
    queueAtMost4 := hrest.length_le.trans h.queueAtMost4
    queueHomesDiffer := h.queueHomesDiffer.sublist (hrest.map _)
    queueInView := fun r hr => h.queueInView r (hrest.subset hr)
    queueNotInFlight := fun c hc hmem => h.queueNotInFlight c hc ((hrest.map _).subset hmem)
    uninitQueueEmpty := fun hm => List.sublist_nil.mp (h.uninitQueueEmpty hm ▸ hrest) }

/-- An accepted request is for a line in view that is neither queued nor in flight, and finds room (R132, R133). -/
theorem State.MapSound.request {s : State} (h : s.MapSound) {home : Nat} {reason : Reason} (hm : s.mode ≠ .uninit)
    (hview : home < s.poolBase ∨ home ∈ s.activeHomes) (ha : s.intakeAnswer home = .accepted) :
    ({ s with migrations := s.migrations ++ [{ home := home, reason := reason }] } : State).MapSound := by
  obtain ⟨hqueued, hflight, hroom⟩ :
      home ∉ s.migrations.map MigrationRequest.home ∧ (∀ c, s.copy = some c → c.home ≠ home) ∧ s.migrations.length < 4 := by
    unfold State.intakeAnswer at ha
    split at ha
    · cases ha
    · rename_i hnew
      split at ha
      · cases ha
      · simp only [Bool.or_eq_true, not_or, Bool.not_eq_true, List.any_eq_false, beq_iff_eq] at hnew
        refine ⟨fun hmem => ?_, fun c hc heq => ?_, by omega⟩
        · obtain ⟨r, hr, heq⟩ := List.mem_map.mp hmem
          exact hnew.1 r hr heq
        · simpa [hc, heq] using hnew.2
  have hhome : home < s.poolBase := hview.elim id (h.activeInView home)
  exact
    { h with
      copySound := fun c hc => (h.copySound c hc).of_eq rfl rfl rfl
      queueAtMost4 := by simp; omega
      queueHomesDiffer := by
        rw [List.map_append]
        exact List.Nodup.append h.queueHomesDiffer (List.nodup_singleton _) (by simpa using hqueued)
      queueInView := by
        intro r hr
        rcases List.mem_append.mp hr with hr | hr
        · exact h.queueInView r hr
        · rw [List.mem_singleton.mp hr]; exact hhome
      queueNotInFlight := by
        intro c hc hmem
        rw [List.map_append] at hmem
        rcases List.mem_append.mp hmem with hmem | hmem
        · exact h.queueNotInFlight c hc hmem
        · exact hflight c hc (List.mem_singleton.mp hmem)
      uninitQueueEmpty := fun hu => absurd hu hm }

/-- The context changed in its cursor, counts and abort flag alone. -/
theorem State.MapSound.changeCopy {s : State} (h : s.MapSound) {x y : Copy} (hx : s.copy = some x) (hhome : y.home = x.home)
    (htarget : y.target = x.target) (hy : s.CopySound y) : ({ s with copy := some y } : State).MapSound :=
  { h with
    migratingIsTarget := by
      have := h.migratingIsTarget
      rw [hx] at this
      exact this.trans (by simp [htarget])
    copySound := fun c hc => by cases hc; exact hy.of_eq rfl rfl rfl
    queueNotInFlight := fun c hc => by
      cases hc
      rw [hhome]
      exact h.queueNotInFlight x hx }

/-- A slot that holds no home takes another such record: the target at a take, at an abort. -/
theorem absentAbove_set {slots : List Slot} {n spares : Nat} {old slot : Slot}
    (h : ∀ i < 64, (slots[i]? = some .absent ↔ spares ≤ i)) (hold : slots[n]? = some old) (ha : old ≠ .absent)
    (hs : slot ≠ .absent) : ∀ i < 64, ((slots.set n slot)[i]? = some .absent ↔ spares ≤ i) := by
  intro i hi
  rw [← h i hi, List.getElem?_set]
  split
  · rename_i heq
    subst heq
    obtain ⟨hn, hget⟩ := List.getElem?_eq_some_iff.mp hold
    simp [hget, ha, hs, hn]
  · rfl

/-- An abort: the target slot is FREE again and no copy is in flight (R122, R151, R155). -/
theorem State.MapSound.abort {s : State} (h : s.MapSound) {x : Copy} (hx : s.copy = some x) :
    ({ s.setSlot x.target .free with copy := none } : State).MapSound := by
  have htarget := (h.copySound x hx).target
  have hhomes : homesHeld (s.slots.set x.target .free) = homesHeld s.slots := homesHeld_set_same htarget rfl
  refine
    { slots64 := by simpa using h.slots64
      linesRange := h.linesRange
      sparesRange := h.sparesRange
      absentAbove := absentAbove_set h.absentAbove htarget (by simp) (by simp)
      oneActivePerHome := ?_
      activeInView := ?_
      migratingIsTarget := (State.migratingSlots_eq_iff _ none).mpr fun i => ?_
      copySound := fun c hc => by cases hc
      queueAtMost4 := h.queueAtMost4
      queueHomesDiffer := h.queueHomesDiffer
      queueInView := h.queueInView
      queueNotInFlight := fun c hc => by cases hc
      uninitQueueEmpty := h.uninitQueueEmpty }
  · have := h.oneActivePerHome
    rw [State.activeHomes_eq] at this ⊢
    rwa [← hhomes] at this
  · intro home hhome
    refine h.activeInView home ?_
    rw [State.activeHomes_eq] at hhome ⊢
    rwa [← hhomes]
  · change (s.slots.set x.target .free)[i]?.any Slot.isMigrating = true ↔ _
    have hmig := h.migrating_iff i
    rw [hx] at hmig
    rw [List.getElem?_set]
    split
    · rename_i heq
      split <;> simp [Slot.isMigrating]
    · simp_all

/-- A take: the FREE slot found becomes the target of the head request's home (R120, R137). -/
theorem State.MapSound.takeRequest {s : State} (h : s.MapSound) {r : MigrationRequest} {rest : List MigrationRequest}
    {target : Nat} (hm : s.mode = .normal) (hcopy : s.copy = none) (hqueue : s.migrations = r :: rest)
    (hfree : s.slots[target]? = some .free) :
    ({ s with
      migrations := rest
      slots := s.slots.set target (.migrating r.home (.request r.reason) (s.activeSlot r.home))
      copy := some (s.takenCopy r target) } : State).MapSound := by
  have hhomes : homesHeld (s.slots.set target (.migrating r.home (.request r.reason) (s.activeSlot r.home))) =
      homesHeld s.slots := homesHeld_set_same hfree rfl
  have hlt := (List.getElem?_eq_some_iff.mp hfree).1
  have dropped := h.dropRequests (hqueue ▸ List.sublist_cons_self r rest)
  have hdiffer := h.queueHomesDiffer
  rw [hqueue, List.map_cons, List.nodup_cons] at hdiffer
  refine
    { slots64 := by simpa using h.slots64
      linesRange := h.linesRange
      sparesRange := h.sparesRange
      absentAbove := absentAbove_set h.absentAbove hfree (by simp) (by simp)
      oneActivePerHome := ?_
      activeInView := ?_
      migratingIsTarget := (State.migratingSlots_eq_iff _ (some target)).mpr fun i => ?_
      copySound := fun c hc => ?_
      queueAtMost4 := dropped.queueAtMost4
      queueHomesDiffer := hdiffer.2
      queueInView := dropped.queueInView
      queueNotInFlight := fun c hc => by cases hc; exact hdiffer.1
      uninitQueueEmpty := fun hu => absurd (hm.symm.trans hu) (by simp) }
  · have := h.oneActivePerHome
    rw [State.activeHomes_eq] at this ⊢
    rwa [← hhomes] at this
  · intro home hhome
    refine h.activeInView home ?_
    rw [State.activeHomes_eq] at hhome ⊢
    rwa [← hhomes]
  · change (s.slots.set target _)[i]?.any Slot.isMigrating = true ↔ _
    have hmig := h.migrating_iff i
    rw [hcopy] at hmig
    rw [List.getElem?_set]
    split
    · simp_all [Slot.isMigrating]
    · simp_all
  · cases hc
    refine ⟨h.queueInView r (hqueue ▸ List.mem_cons_self ..), ⟨Eq.symm ?_, Eq.symm ?_⟩, ?_, by simp [State.takenCopy],
      by simp [State.takenCopy]⟩
    · apply State.translate_of_homes (s := s)
      · exact hhomes
      · rfl
    · apply State.activeSlot_of_homes (s := s)
      exact hhomes
    · change (s.slots.set target _)[target]? = _
      rw [List.getElem?_set_self hlt]
      rfl

theorem modify_eq_set {slots : List Slot} {n : Nat} {slot : Slot} (h : slots[n]? = some slot) (f : Slot → Slot) :
    slots.modify n f = slots.set n (f slot) := by
  apply List.ext_getElem?
  intro i
  rw [List.getElem?_modify, List.getElem?_set]
  split
  · rename_i heq
    subst heq
    rw [h, if_pos (List.getElem?_eq_some_iff.mp h).1]
    rfl
  · exact Option.map_id' ..

/-- The slots after a commit: the target is ACTIVE, and a replaced slot RETIRED (R121). -/
theorem State.commitSlots_slots {s : State} {target home : Nat} {origin : Origin} {replaced : Option Nat}
    (ht : s.slots[target]? = some (.migrating home origin replaced)) :
    (s.commitSlots target none).slots = s.slots.set target (.active home origin s.patrol.pass) ∧
      ∀ r home' origin' pass, s.slots[r]? = some (.active home' origin' pass) →
        (s.commitSlots target (some r)).slots =
          (s.slots.set target (.active home origin s.patrol.pass)).set r (.retired home' origin' pass) := by
  have hmade : s.slots.modify target (Slot.commit s.patrol.pass) =
      s.slots.set target (.active home origin s.patrol.pass) := modify_eq_set ht _
  refine ⟨hmade, fun r home' origin' pass hr => ?_⟩
  have hne : target ≠ r := by
    rintro rfl
    rw [ht] at hr
    cases hr
  change (s.slots.modify target (Slot.commit s.patrol.pass)).modify r Slot.retire = _
  rw [hmade]
  exact modify_eq_set ((List.getElem?_set_ne hne).trans hr) _

/-- What a commit asks of the slots it leaves: the home line is held by the target alone, every other home as before, no
slot is MIGRATING, and the same slots are ABSENT. -/
structure CommittedSlots (s : State) (x : Copy) (slots : List Slot) : Prop where
  length : slots.length = s.slots.length
  absent : ∀ i : Nat, i < 64 → (slots[i]? = some .absent ↔ s.settings.spareCount ≤ i)
  homes : ∀ (i home : Nat), (homesHeld slots)[i]? = some (some home) →
    (i = x.target ∧ home = x.home) ∨ (home ≠ x.home ∧ (homesHeld s.slots)[i]? = some (some home))
  still : ∀ i : Nat, slots[i]?.any Slot.isMigrating = false

theorem State.MapSound.committedSlots {s : State} (h : s.MapSound) {x : Copy} (hx : s.copy = some x) :
    CommittedSlots s x (s.commitSlots x.target x.sourceSlot).slots := by
  have sound := h.copySound x hx
  obtain ⟨hnone, hsome⟩ := State.commitSlots_slots sound.target
  have made := absentAbove_set (slot := .active x.home (.request x.reason) s.patrol.pass) h.absentAbove sound.target (by simp)
    (by simp)
  have hmig (i : Nat) (hi : x.target ≠ i) : s.slots[i]?.any Slot.isMigrating = false := by
    rw [Bool.eq_false_iff]
    intro hany
    have := (h.migrating_iff i).mp hany
    rw [hx] at this
    exact hi (Option.some.inj this)
  cases hsource : x.sourceSlot with
  | none =>
    have hfresh : x.home ∉ s.activeHomes := by
      rw [← State.activeSlot_eq_none_iff, ← sound.sourceOfRecord.2, hsource]
    rw [hnone]
    refine ⟨List.length_set, made, fun i home hi => ?_, fun i => ?_⟩
    · rw [homesHeld_set, List.getElem?_set] at hi
      split at hi
      · split at hi
        · cases hi; exact .inl ⟨by omega, rfl⟩
        · cases hi
      · refine .inr ⟨?_, hi⟩
        rintro rfl
        exact hfresh ((s.mem_activeHomes _).mpr ⟨i, hi⟩)
    · rw [List.getElem?_set]
      split
      · split <;> rfl
      · exact hmig i ‹_›
  | some r =>
    have hheld : (homesHeld s.slots)[r]? = some (some x.home) :=
      State.home_of_activeSlot (sound.sourceOfRecord.2.symm.trans hsource)
    obtain ⟨origin, pass, hr⟩ : ∃ origin pass, s.slots[r]? = some (.active x.home origin pass) := by
      rw [getElem?_homesHeld, Option.map_eq_some_iff] at hheld
      obtain ⟨slot, hslot, hactive⟩ := hheld
      cases slot <;> simp [Slot.activeHome] at hactive
      exact ⟨_, _, hactive ▸ hslot⟩
    have hne : x.target ≠ r := fun heq => by
      rw [← heq, sound.target] at hr
      cases hr
    rw [hsome r _ _ _ hr]
    refine ⟨by simp, absentAbove_set made ((List.getElem?_set_ne hne).trans hr) (by simp) (by simp), fun i home hi => ?_,
      fun i => ?_⟩
    · rw [homesHeld_set, homesHeld_set, List.getElem?_set] at hi
      split at hi
      · split at hi <;> cases hi
      · rename_i hir
        rw [List.getElem?_set] at hi
        split at hi
        · split at hi
          · cases hi; exact .inl ⟨by omega, rfl⟩
          · cases hi
        · refine .inr ⟨?_, hi⟩
          rintro rfl
          exact hir ((s.activeHomes_nodup_iff.mp h.oneActivePerHome) r i _ hheld hi)
    · rw [List.getElem?_set]
      split
      · split <;> rfl
      · rw [List.getElem?_set]
        split
        · split <;> rfl
        · exact hmig i ‹_›

/-- A commit: the home line leaves the slot that held it, if any did, for the target (R115, R116, R121). -/
theorem State.MapSound.commit {s : State} (h : s.MapSound) {x : Copy} (hx : s.copy = some x) :
    ({ s with slots := (s.commitSlots x.target x.sourceSlot).slots, copy := none } : State).MapSound := by
  obtain ⟨hlength, habsent, hhomes, hstill⟩ := h.committedSlots hx
  exact
    { slots64 := hlength.trans h.slots64
      linesRange := h.linesRange
      sparesRange := h.sparesRange
      absentAbove := habsent
      oneActivePerHome := by
        refine (State.activeHomes_nodup_iff _).mpr fun i j home hi hj => ?_
        rcases hhomes i home hi with ⟨rfl, hx⟩ | ⟨hne, hi⟩
        · rcases hhomes j home hj with ⟨rfl, -⟩ | ⟨hne, -⟩
          · rfl
          · exact absurd hx hne
        · rcases hhomes j home hj with ⟨-, hx⟩ | ⟨-, hj⟩
          · exact absurd hx hne
          · exact (s.activeHomes_nodup_iff.mp h.oneActivePerHome) i j home hi hj
      activeInView := by
        intro home hhome
        obtain ⟨i, hi⟩ := (State.mem_activeHomes _ home).mp hhome
        rcases hhomes i home hi with ⟨-, rfl⟩ | ⟨-, hi⟩
        · exact (h.copySound x hx).homeInView
        · exact h.activeInView home ((s.mem_activeHomes home).mpr ⟨i, hi⟩)
      migratingIsTarget := (State.migratingSlots_eq_iff _ none).mpr fun i => by
        change (s.commitSlots x.target x.sourceSlot).slots[i]?.any Slot.isMigrating = true ↔ _
        simp [hstill i]
      copySound := fun c hc => by cases hc
      queueAtMost4 := h.queueAtMost4
      queueHomesDiffer := h.queueHomesDiffer
      queueInView := h.queueInView
      queueNotInFlight := fun c hc => by cases hc
      uninitQueueEmpty := h.uninitQueueEmpty }

/-! ### The map in UNINIT: presets, unmappings and the pool's settings -/

/-- In UNINIT no request waits and no copy is in flight, so that the map alone is at stake. -/
theorem State.MapSound.of_still {s t : State} (h : s.MapSound) (hqueue : t.migrations = []) (hcopy : t.copy = none)
    (hlength : t.slots.length = 64)
    (hlines : 12 ≤ t.settings.memoryLinesLog2 ∧ t.settings.memoryLinesLog2 ≤ 19) (hspares : t.settings.spareCount ≤ 64)
    (habsent : ∀ i < 64, (t.slots[i]? = some .absent ↔ t.settings.spareCount ≤ i)) (hhomes : t.activeHomes.Nodup)
    (hview : ∀ home ∈ t.activeHomes, home < t.poolBase)
    (hstill : ∀ i : Nat, t.slots[i]?.any Slot.isMigrating = true → s.slots[i]?.any Slot.isMigrating = true)
    (hnone : s.copy = none) : t.MapSound where
  slots64 := hlength
  linesRange := hlines
  sparesRange := hspares
  absentAbove := habsent
  oneActivePerHome := hhomes
  activeInView := hview
  migratingIsTarget := by
    refine (t.migratingSlots_eq_iff _).mpr fun i => ?_
    have hmig := h.migrating_iff i
    rw [hnone] at hmig
    rw [hcopy]
    exact ⟨fun hi => hmig.mp (hstill i hi), fun hi => by cases hi⟩
  copySound := fun c hc => by rw [hcopy] at hc; cases hc
  queueAtMost4 := by rw [hqueue]; exact Nat.zero_le _
  queueHomesDiffer := by rw [hqueue]; exact List.nodup_nil
  queueInView := fun r hr => by rw [hqueue] at hr; cases hr
  queueNotInFlight := fun c hc => by rw [hcopy] at hc; cases hc
  uninitQueueEmpty := fun _ => hqueue

/-- A preset gives the FREE slot that it takes a home line that no slot holds (R116, R124). -/
theorem State.MapSound.preset {s : State} (h : s.MapSound) {n line : Nat} (hm : s.mode = .uninit) (hnone : s.copy = none)
    (hfree : s.slots[n]? = some .free) (hview : line < s.poolBase) (hnew : s.activeSlot line = none) :
    (s.setSlot n (.active line .preset s.patrol.pass)).MapSound := by
  have hfresh := (s.activeSlot_eq_none_iff line).mp hnew
  have hheld (i home : Nat) (hi : (homesHeld (s.slots.set n (.active line .preset s.patrol.pass)))[i]? = some (some home)) :
      (i = n ∧ home = line) ∨ (home ≠ line ∧ (homesHeld s.slots)[i]? = some (some home)) := by
    rw [homesHeld_set, List.getElem?_set] at hi
    split at hi
    · split at hi
      · cases hi; exact .inl ⟨by omega, rfl⟩
      · cases hi
    · refine .inr ⟨?_, hi⟩
      rintro rfl
      exact hfresh ((s.mem_activeHomes _).mpr ⟨i, hi⟩)
  refine h.of_still (h.uninitQueueEmpty hm) hnone (by simpa using h.slots64) h.linesRange h.sparesRange
    (absentAbove_set h.absentAbove hfree (by simp) (by simp)) ?_ ?_ ?_ hnone
  · refine (State.activeHomes_nodup_iff _).mpr fun i j home hi hj => ?_
    rcases hheld i home hi with ⟨rfl, hl⟩ | ⟨hne, hi⟩ <;> rcases hheld j home hj with ⟨rfl, hl'⟩ | ⟨hne', hj⟩
    · rfl
    · exact absurd hl hne'
    · exact absurd hl' hne
    · exact (s.activeHomes_nodup_iff.mp h.oneActivePerHome) i j home hi hj
  · intro home hhome
    obtain ⟨i, hi⟩ := (State.mem_activeHomes _ home).mp hhome
    rcases hheld i home hi with ⟨-, rfl⟩ | ⟨-, hi⟩
    · exact hview
    · exact h.activeInView home ((s.mem_activeHomes home).mpr ⟨i, hi⟩)
  · intro i hi
    change (s.slots.set n _)[i]?.any Slot.isMigrating = true at hi
    rw [List.getElem?_set] at hi
    split at hi
    · split at hi <;> cases hi
    · exact hi

/-- An unmapping takes a home line out of the map, if the slot held one (R124). -/
theorem State.MapSound.unmap {s : State} (h : s.MapSound) {n : Nat} {slot : Slot} (hm : s.mode = .uninit)
    (hnone : s.copy = none) (hslot : s.slots[n]? = some slot) (huse : slot.inUse = true) :
    (s.setSlot n .free).MapSound := by
  have hheld (i home : Nat) (hi : (homesHeld (s.slots.set n .free))[i]? = some (some home)) :
      (homesHeld s.slots)[i]? = some (some home) := by
    rw [homesHeld_set, List.getElem?_set] at hi
    split at hi
    · split at hi <;> cases hi
    · exact hi
  refine h.of_still (h.uninitQueueEmpty hm) hnone (by simpa using h.slots64) h.linesRange h.sparesRange
    (absentAbove_set h.absentAbove hslot (by rintro rfl; cases huse) (by simp)) ?_ ?_ ?_ hnone
  · exact (State.activeHomes_nodup_iff _).mpr fun i j home hi hj =>
      (s.activeHomes_nodup_iff.mp h.oneActivePerHome) i j home (hheld i home hi) (hheld j home hj)
  · intro home hhome
    obtain ⟨i, hi⟩ := (State.mem_activeHomes _ home).mp hhome
    exact h.activeInView home ((s.mem_activeHomes home).mpr ⟨i, hheld i home hi⟩)
  · intro i hi
    change (s.slots.set n _)[i]?.any Slot.isMigrating = true at hi
    rw [List.getElem?_set] at hi
    split at hi
    · split at hi <;> cases hi
    · exact hi

/-- The test of R125 and R126: no home line in use lies at or above the new POOL_BASE. -/
theorem State.activeHomeFrom_eq_false_iff (s : State) (bound : Nat) :
    s.activeHomeFrom bound = false ↔ ∀ home ∈ s.activeHomes, home < bound := by
  simp only [State.activeHomeFrom, State.activeHomes, List.any_eq_false, List.mem_filterMap]
  constructor
  · rintro h home ⟨slot, hslot, hhome⟩
    simpa [hhome] using h slot hslot
  · intro h slot hslot
    cases hhome : slot.activeHome with
    | none => simp
    | some home => simpa using h home ⟨slot, hslot, hhome⟩

theorem SettingWrite.keeps_map {s t : State} {v : Nat} (hw : SettingWrite s v t) (h : s.MapSound)
    (hnone : s.mode = .uninit → s.copy = none) : t.MapSound := by
  cases hw
  case refused => exact h
  case memoryLines hm hlow hhigh hview =>
    exact h.of_still (h.uninitQueueEmpty hm) (hnone hm) h.slots64 ⟨hlow, hhigh⟩ h.sparesRange h.absentAbove
      h.oneActivePerHome ((s.activeHomeFrom_eq_false_iff _).mp hview) (fun _ hi => hi) (hnone hm)
  case spares hm hhigh huse hview =>
    have hhomes : homesHeld (resizeSlots v 0 s.slots) = homesHeld s.slots := homesHeld_resizeSlots huse
    have hactive (t : State) (ht : t.slots = resizeSlots v 0 s.slots) : t.activeHomes = s.activeHomes := by
      rw [State.activeHomes_eq, State.activeHomes_eq, ht, hhomes]
    refine h.of_still (h.uninitQueueEmpty hm) (hnone hm) (by simpa [length_resizeSlots] using h.slots64) h.linesRange hhigh
      ?_ ?_ ?_ ?_ (hnone hm)
    · intro i hi
      change (resizeSlots v 0 s.slots)[i]? = _ ↔ v ≤ i
      rw [getElem?_resizeSlots, Nat.zero_add, List.getElem?_eq_getElem (by rw [h.slots64]; exact hi), Option.map_some,
        Option.some.injEq]
      split
      · simp [*]
      · split <;> simp [*]
    · rw [hactive]
      · exact h.oneActivePerHome
      · rfl
    · rw [hactive]
      · exact (s.activeHomeFrom_eq_false_iff _).mp hview
      · rfl
    · intro i hi
      change (resizeSlots v 0 s.slots)[i]?.any _ = true at hi
      rw [getElem?_resizeSlots] at hi
      cases hslot : s.slots[i]? with
      | none => rw [hslot] at hi; cases hi
      | some slot =>
        rw [hslot] at hi
        cases slot <;> revert hi <;> simp only [Option.map_some] <;> split <;> simp [Slot.isMigrating]
  all_goals
    refine { h with copySound := fun c hc => (h.copySound c hc).of_eq ?_ ?_ ?_ } <;> rfl

theorem State.reset_mapSound : State.reset.MapSound where
  slots64 := by decide
  linesRange := by decide
  sparesRange := by decide
  absentAbove := by decide
  oneActivePerHome := by decide
  activeInView := by decide
  migratingIsTarget := by decide
  copySound := by intro c h; cases h
  queueAtMost4 := by decide
  queueHomesDiffer := by decide
  queueInView := by decide
  queueNotInFlight := by intro c h; cases h
  uninitQueueEmpty := by decide

/-! ### The map through every change -/

/-- The map, with no copy in flight in UNINIT: what a chain of changes keeps. -/
def State.MapHeld (s : State) : Prop := s.MapSound ∧ (s.mode = .uninit → s.copy = none)

theorem State.MapHeld.of_eq {s t : State} (h : s.MapHeld) (hslots : t.slots = s.slots) (hset : t.settings = s.settings)
    (hcopy : t.copy = s.copy) (hqueue : t.migrations = s.migrations) (hmode : t.mode = s.mode) : t.MapHeld :=
  ⟨h.1.of_eq hslots hset hcopy hqueue fun hm => hqueue.trans (h.1.uninitQueueEmpty (hmode.symm.trans hm)),
    fun hm => hcopy.trans (h.2 (hmode.symm.trans hm))⟩

/-- Every elementary change keeps the map, where the command met no access in UNINIT. -/
theorem Effect.keeps_map {c : Instr} {p u v : State} (e : Effect c p u v) (hp : p.liveAccess.isSome = true → p.mode ≠ .uninit)
    (h : u.MapHeld) : v.MapHeld := by
  obtain ⟨sound, still⟩ := h
  have awake {x : Copy} (hx : u.copy = some x) : u.mode ≠ .uninit := fun hm => by simp [still hm] at hx
  cases e
  case preset n line hm hfree hview hnew => exact ⟨sound.preset hm (still hm) hfree hview hnew, still⟩
  case unmap n slot hm hslot huse => exact ⟨sound.unmap hm (still hm) hslot huse, still⟩
  case request home reason hm hview ha =>
    exact ⟨sound.request (hm.elim id fun x => x.1 ▸ hp x.2) hview ha, still⟩
  case dropRequests rest hrest => exact ⟨sound.dropRequests hrest, still⟩
  case takeRequest r rest target hm hcopy hqueue hfree =>
    exact ⟨sound.takeRequest hm hcopy hqueue hfree, fun hu => by cases hm.symm.trans hu⟩
  case copyStep x source hx hne =>
    have held := sound.copySound x hx
    have hcounts := held.countsFit
    have hcursor := held.cursorInLine
    refine ⟨sound.changeCopy hx rfl rfl ?_, fun hu => absurd hu (awake hx)⟩
    refine ⟨held.homeInView, held.sourceOfRecord, held.target, ?_, ?_⟩
    · change x.cursor + 1 ≤ 7
      omega
    · cases source <;> simp [Copy.stepped] <;> omega
  case pendAbort x hx =>
    have held := sound.copySound x hx
    exact ⟨sound.changeCopy hx rfl rfl ⟨held.homeInView, held.sourceOfRecord, held.target, held.cursorInLine, held.countsFit⟩,
      fun hu => absurd hu (awake hx)⟩
  case commit x hx => exact ⟨sound.commit hx, fun _ => rfl⟩
  case abort x hx => exact ⟨sound.abort hx, fun _ => rfl⟩
  case mode m _ _ _ hempty =>
    exact ⟨sound.of_eq rfl rfl rfl rfl fun hm => (hempty hm).1, fun hm => (hempty hm).2⟩
  case sweepEnd =>
    exact ⟨sound.of_eq rfl rfl rfl rfl (fun hm => Mode.noConfusion hm), fun hm => Mode.noConfusion hm⟩
  case setting identifier n _ =>
    refine ⟨(u.putSetting_write identifier n).keeps_map sound still, ?_⟩
    rw [State.putSetting_changes]
    exact still
  case cold =>
    exact ⟨State.reset_mapSound.of_eq rfl rfl rfl rfl fun _ => rfl, fun _ => rfl⟩
  case report => exact State.MapHeld.of_eq ⟨sound, still⟩ (by simp) (by simp) (by simp) (by simp) (by simp)
  all_goals exact State.MapHeld.of_eq ⟨sound, still⟩ rfl rfl rfl rfl rfl

/-- In UNINIT the traffic is at rest, and no grant is outstanding (R160). -/
theorem State.TrafficSound.uninit_access {s : State} (h : s.TrafficSound) :
    s.settled.liveAccess.isSome = true → s.settled.mode ≠ .uninit := by
  intro hlive hm
  cases haward : s.award with
  | none =>
    rw [s.settled_of_award_none haward] at hlive hm
    rw [(h.port.uninitIdle hm).2.2] at hlive
    cases hlive
  | some a =>
    rw [State.settled_mode] at hm
    rw [(h.port.uninitIdle hm).1] at haward
    cases haward

/-- Settles O11: each change of the map finds the requests and the context as its command's tests left them. -/
theorem mapAndEngineKept : Obligations.MapAndEngineKept := by
  intro s t hmap htraffic h
  have still : s.mode = .uninit → s.copy = none := fun hm => by
    by_contra hcopy
    have := htraffic.port.copyModes (Option.isSome_iff_ne_none.mpr hcopy)
    simp [hm] at this
  unfold step at h
  split at h
  · cases h
    exact hmap.of_eq rfl rfl rfl rfl hmap.uninitQueueEmpty
  · rename_i c rest hpending
    have traffic : ({ s with pending := rest } : State).TrafficSound :=
      ⟨{ htraffic.host with }, { htraffic.port with }, { htraffic.queue with }⟩
    have held : ({ s with pending := rest } : State).MapHeld := State.MapHeld.of_eq ⟨hmap, still⟩ rfl rfl rfl rfl rfl
    exact ((exec_effects h).keeps (fun _ _ e => e.keeps_map traffic.uninit_access) held).1

end Sys2Proof.Machine
end

section
/-! SUPPORT. The host's side of the part (O12): what the arbiter's decision says of the requesters, what the end of a grant and a
decision leave, and every command on the state that it meets. -/

namespace Sys2Proof.Machine

/-! ### The arbiter's decision -/

theorem State.firstStep_eq_none_iff (s : State) :
    s.firstStep = none ↔ s.writeBacks = [] ∧ s.copy = none ∧ (s.patrol.debt = 0 ∨ s.mode ≠ .normal) ∧
      s.mode ≠ .sweeping := by
  have hdebt : (1 ≤ s.patrol.debt → s.mode ≠ .normal) ↔ (s.patrol.debt = 0 ∨ s.mode ≠ .normal) := by
    rw [Nat.one_le_iff_ne_zero]
    tauto
  simp [State.firstStep, State.stepPresent, List.find?_eq_none, hdebt]

theorem State.stepPresent_of_firstStep {s : State} {which : Step} (h : s.firstStep = some which) :
    s.stepPresent which = true := by
  simpa using List.find?_some h

/-- No decision is called for exactly where no requester is present (R46, R49). -/
theorem State.decision_eq_none_iff (s : State) :
    s.decision = none ↔ s.hostWaiting = false ∧ s.firstStep = none := by
  constructor
  · intro h
    unfold State.decision at h
    repeat' split at h
    all_goals simp_all
  · rintro ⟨hwaiting, hfirst⟩
    obtain ⟨hqueue, -, hdebt, -⟩ := s.firstStep_eq_none_iff.mp hfirst
    have hdrain : s.drainUrgent = false := by simp [State.drainUrgent, hqueue]
    have hpatrol : s.patrolUrgent = false := by
      rcases hdebt with hdebt | hmode
      · simp [State.patrolUrgent, State.stepPresent, hdebt]
      · simp [State.patrolUrgent, State.stepPresent, hmode]
    simp [State.decision, hdrain, hpatrol, hfirst, hwaiting]

theorem State.decision_eq_none (s : State) :
    s.decision = none ↔ s.hostWaiting = false ∧ s.writeBacks = [] ∧ s.copy = none ∧
      (s.patrol.debt = 0 ∨ s.mode ≠ .normal) ∧ s.mode ≠ .sweeping := by
  rw [State.decision_eq_none_iff, State.firstStep_eq_none_iff]

/-- A step is decided on only while it is present (R49). -/
theorem State.stepPresent_of_decision {s : State} {which : Step} {g : GrantCase}
    (h : s.decision = some ⟨.step which, g⟩) : s.stepPresent which = true := by
  have first {g' : GrantCase}
      (h : (s.firstStep.map fun w => (⟨.step w, g'⟩ : Award)) = some ⟨.step which, g⟩) : s.stepPresent which = true := by
    obtain ⟨w, hw, heq⟩ := Option.map_eq_some_iff.mp h
    cases heq
    exact State.stepPresent_of_firstStep hw
  unfold State.decision at h
  split at h
  · rename_i hdrain
    cases h
    have hlength : s.writeBacks.length = 8 := by
      simp [State.drainUrgent] at hdrain
      exact hdrain.1
    cases hq : s.writeBacks with
    | nil => simp [hq] at hlength
    | cons w rest => simp [State.stepPresent, hq]
  split at h
  · rename_i hpatrol
    cases h
    simp [State.patrolUrgent] at hpatrol
    exact hpatrol.1.1
  split at h
  · exact first h
  split at h
  · cases h
  · exact first h

/-- The case of an urgent drain names W. -/
theorem State.grantee_of_urgentDrain {s : State} {r : Requester} (h : s.decision = some ⟨r, .urgentDrain⟩) :
    r = .step .drain := by
  unfold State.decision at h
  repeat' split at h
  all_goals simp_all

/-- The host is decided on while it waits, and with 8 entries queued only after W has passed it over (R49). -/
theorem State.host_of_decision {s : State} {g : GrantCase} (h : s.decision = some ⟨.host, g⟩) :
    s.hostWaiting = true ∧ (s.writeBacks.length ≠ 8 ∨ s.passed CycleRecord.writeBackPass = true) := by
  unfold State.decision at h
  split at h
  · cases h
  rename_i hdrain
  split at h
  · cases h
  split at h
  · simp at h
  split at h
  · rename_i hw
    refine ⟨hw, ?_⟩
    by_contra hboth
    simp [State.drainUrgent] at hboth hdrain
    simp [hboth] at hdrain
  · simp at h

/-! ### Changes that the traffic does not read -/

theorem State.hostReadInProgress_iff (s : State) :
    s.hostReadInProgress = true ↔ ∃ word, s.liveAccess = some (.hostRead word) := by
  unfold State.hostReadInProgress
  split
  · rename_i word hword
    exact ⟨fun _ => ⟨word, hword⟩, fun _ => rfl⟩
  · rename_i hnot
    exact ⟨fun h => (by cases h), fun ⟨word, hword⟩ => absurd hword (hnot word)⟩

theorem State.drainWritesHead_iff (s : State) :
    s.drainWritesHead = true ↔ ∀ word stored, s.liveAccess = some (.drainWrite word stored) →
      s.writeBacks.head?.any (fun w => w.word == word && stored == encode w.data) = true := by
  unfold State.drainWritesHead
  split
  · rename_i word stored hdrain
    exact ⟨fun h word' stored' h' => by cases hdrain.symm.trans h'; exact h, fun h => h word stored hdrain⟩
  · rename_i hnot
    exact ⟨fun _ word stored hdrain => absurd hdrain (hnot word stored), fun _ => rfl⟩

/-- Two states that agree in what the invariant of the traffic reads, the decision apart. -/
structure SameTraffic (s t : State) : Prop where
  hstb : t.hstb = s.hstb
  strobeHeld : t.strobeHeld = s.strobeHeld
  hreset : t.hreset = s.hreset
  host : t.host = s.host
  port : t.port = s.port
  award : t.award = s.award
  decisionOpen : t.decisionOpen = s.decisionOpen
  writeBacks : t.writeBacks = s.writeBacks
  mode : t.mode = s.mode
  copy : t.copy.isSome = s.copy.isSome

theorem SameTraffic.refl {s : State} : SameTraffic s s := ⟨rfl, rfl, rfl, rfl, rfl, rfl, rfl, rfl, rfl, rfl⟩

theorem SameTraffic.trans {s t u : State} (e : SameTraffic s t) (e' : SameTraffic t u) : SameTraffic s u :=
  ⟨e'.hstb.trans e.hstb, e'.strobeHeld.trans e.strobeHeld, e'.hreset.trans e.hreset, e'.host.trans e.host,
    e'.port.trans e.port, e'.award.trans e.award, e'.decisionOpen.trans e.decisionOpen, e'.writeBacks.trans e.writeBacks,
    e'.mode.trans e.mode, e'.copy.trans e.copy⟩

theorem SameTraffic.beginAccess {s t : State} (e : SameTraffic s t) {holder : PortHolder} {a : Access} :
    SameTraffic (s.beginAccess holder a) (t.beginAccess holder a) :=
  { e with port := rfl }

theorem State.sameTraffic_checkPatrolLine (s : State) : SameTraffic s s.checkPatrolLine := by
  constructor <;> rw [State.checkPatrolLine_changes]

theorem State.HostSound.of_eq {s t : State} (h : s.HostSound) (hhstb : t.hstb = s.hstb) (hheld : t.strobeHeld = s.strobeHeld)
    (hreset : t.hreset = s.hreset) (hhost : t.host = s.host) : t.HostSound where
  recordWhileHeld := hhost ▸ h.recordWhileHeld
  readyWhileResponding := hhost ▸ h.readyWhileResponding
  errorOnlyReady := hhost ▸ h.errorOnlyReady
  dataOnlyReady := hhost ▸ h.dataOnlyReady
  respondingUntilWithdrawn := by rw [hhost, hheld]; exact h.respondingUntilWithdrawn
  strobeHeldByCycle := by rw [hhost, hheld, hhstb]; exact h.strobeHeldByCycle
  abandonedUnderReset := by rw [hhost, hreset]; exact h.abandonedUnderReset
  nullWriteNeverWaits := hhost ▸ h.nullWriteNeverWaits

theorem State.passed_of_eq {s t : State} (h : t.host = s.host) (flag : CycleRecord → Bool) : t.passed flag = s.passed flag := by
  unfold State.passed State.hostWaiting
  rw [h]

theorem State.hostWaiting_of_eq {s t : State} (h : t.host = s.host) : t.hostWaiting = s.hostWaiting := by
  unfold State.hostWaiting
  rw [h]

theorem State.liveAccess_of_eq {s t : State} (h : t.port = s.port) : t.liveAccess = s.liveAccess := by
  unfold State.liveAccess
  rw [h]

theorem State.QueueSound.of_eq {s t : State} (h : s.QueueSound) (hhost : t.host = s.host) (hport : t.port = s.port)
    (hqueue : t.writeBacks = s.writeBacks) (hmode : t.mode = s.mode) : t.QueueSound where
  atMost8 := hqueue ▸ h.atMost8
  oneEntryPerWord := hqueue ▸ h.oneEntryPerWord
  emptyUninit := by rw [hqueue, hmode]; exact h.emptyUninit
  emptyQuiet := by rw [hqueue, hmode]; exact h.emptyQuiet
  roomForRead := by rw [State.hostReadInProgress, State.liveAccess_of_eq hport, hqueue]; exact h.roomForRead
  roomWhilePassed := by rw [State.passed_of_eq hhost, hqueue, hport]; exact h.roomWhilePassed
  drainTakesHead := by rw [State.drainWritesHead, State.liveAccess_of_eq hport, hqueue]; exact h.drainTakesHead

/-! ### States with no decision outstanding -/

/-- The traffic is sound, and no decision is outstanding; whether a FREE port calls for one is left open. -/
structure State.Undecided (s : State) : Prop where
  host : s.HostSound
  queue : s.QueueSound
  award : s.award = none
  closed : s.decisionOpen = false
  accessUnderGrant : s.port.holder = (s.port.access.map Access.holder).getD .free
  freeNotAbandoned : s.port.holder = .free → s.port.abandoned = false
  accessingMeansHost : s.host.state = .accessing ↔ (s.port.holder = .host ∧ s.port.abandoned = false)
  uninitIdle : s.mode = .uninit → s.hostWaiting = false ∧ s.liveAccess = none
  copyModes : s.copy.isSome = true → s.mode = .normal ∨ s.mode = .quiescing
  gapBeforeHostWrite : s.port.gap = true → s.port.abandoned = false ∧ s.port.access.any Access.followsInGrant = true

/-- The state that an event meets, its grant made: the traffic is sound and no decision is outstanding, so that on a FREE port
no requester is present. -/
structure State.Ready (s : State) : Prop extends State.Undecided s where
  restsOnFree : s.port.holder = .free → s.decision = none

/-- In UNINIT no requester is present but a waiting cycle. -/
theorem State.Undecided.decision_uninit {s : State} (h : s.Undecided) (hm : s.mode = .uninit) : s.decision = none := by
  rw [State.decision_eq_none]
  refine ⟨(h.uninitIdle hm).1, h.queue.emptyUninit hm, ?_, .inr (by simp [hm]), by simp [hm]⟩
  by_contra hcopy
  have := h.copyModes (Option.isSome_iff_ne_none.mpr hcopy)
  simp [hm] at this

theorem State.Undecided.of_same {s t : State} (h : s.Undecided) (e : SameTraffic s t) : t.Undecided where
  host := h.host.of_eq e.hstb e.strobeHeld e.hreset e.host
  queue := h.queue.of_eq e.host e.port e.writeBacks e.mode
  award := e.award.trans h.award
  closed := e.decisionOpen.trans h.closed
  accessUnderGrant := e.port ▸ h.accessUnderGrant
  freeNotAbandoned := e.port ▸ h.freeNotAbandoned
  accessingMeansHost := by rw [e.host, e.port]; exact h.accessingMeansHost
  uninitIdle := by rw [e.mode, State.hostWaiting_of_eq e.host, State.liveAccess_of_eq e.port]; exact h.uninitIdle
  copyModes := by rw [e.copy, e.mode]; exact h.copyModes
  gapBeforeHostWrite := e.port ▸ h.gapBeforeHostWrite

theorem State.Ready.of_same {s t : State} (h : s.Ready) (e : SameTraffic s t) (hdebt : t.patrol.debt ≤ s.patrol.debt) :
    t.Ready where
  toUndecided := h.toUndecided.of_same e
  restsOnFree := by
    intro hfree
    obtain ⟨hwaiting, hqueue, hcopy, hrest, hsweep⟩ := s.decision_eq_none.mp (h.restsOnFree (e.port ▸ hfree))
    refine t.decision_eq_none.mpr ⟨(State.hostWaiting_of_eq e.host).trans hwaiting, e.writeBacks.trans hqueue, ?_, ?_,
      e.mode ▸ hsweep⟩
    · have := e.copy
      rw [hcopy] at this
      simpa using this
    · rw [e.mode]
      exact hrest.imp (fun h0 => by omega) id

theorem State.Undecided.sound {s : State} (h : s.Undecided) (hrest : s.port.holder = .free → s.decision = none) :
    s.TrafficSound where
  host := h.host
  queue := h.queue
  port :=
    { accessUnderGrant := h.accessUnderGrant
      freeNotAbandoned := h.freeNotAbandoned
      awardOnFree := fun ha => by simp [h.award] at ha
      decidedWhileFree := fun hfree => h.award.trans (hrest hfree).symm
      accessingMeansHost := h.accessingMeansHost
      uninitIdle := fun hm => ⟨h.award, h.uninitIdle hm⟩
      copyModes := h.copyModes
      openOnlyOutstanding := fun ho => by simp [h.closed] at ho
      gapBeforeHostWrite := h.gapBeforeHostWrite }

theorem State.Ready.sound {s : State} (h : s.Ready) : s.TrafficSound := h.toUndecided.sound h.restsOnFree

/-- With no decision outstanding, sound traffic is ready for an event. -/
theorem State.TrafficSound.ready {s : State} (h : s.TrafficSound) (ha : s.award = none) : s.Ready where
  host := h.host
  queue := h.queue
  award := ha
  closed := by
    by_contra ho
    have := h.port.openOnlyOutstanding (by simpa using ho)
    simp [ha] at this
  accessUnderGrant := h.port.accessUnderGrant
  freeNotAbandoned := h.port.freeNotAbandoned
  accessingMeansHost := h.port.accessingMeansHost
  uninitIdle := fun hm => (h.port.uninitIdle hm).2
  copyModes := h.port.copyModes
  gapBeforeHostWrite := h.port.gapBeforeHostWrite
  restsOnFree := fun hfree => (h.port.decidedWhileFree hfree).symm.trans ha

/-- A decision made where the port may be FREE leaves sound traffic (R48). -/
theorem State.Undecided.arbitrate {s : State} (h : s.Undecided) : s.arbitrate.TrafficSound := by
  by_cases hfree : s.port.holder = .free
  · have heq : s.arbitrate = { s with award := s.decision } := by simp [State.arbitrate, hfree, h.award]
    rw [heq]
    exact
      { host := { h.host with }
        queue := { h.queue with }
        port :=
          { accessUnderGrant := h.accessUnderGrant
            freeNotAbandoned := h.freeNotAbandoned
            awardOnFree := fun _ => hfree
            decidedWhileFree := fun _ => rfl
            accessingMeansHost := h.accessingMeansHost
            uninitIdle := fun hm => ⟨h.decision_uninit hm, h.uninitIdle hm⟩
            copyModes := h.copyModes
            openOnlyOutstanding := fun ho => by simp [h.closed] at ho
            gapBeforeHostWrite := h.gapBeforeHostWrite } }
  · have heq : s.arbitrate = s := by simp [State.arbitrate, hfree]
    rw [heq]
    exact h.sound fun hf => absurd hf hfree

/-! ### The end of a grant -/

/-- What must hold of a state whose grant ends, whatever its port: the controller no longer accesses. -/
structure State.Ending (s : State) : Prop where
  host : s.HostSound
  notAccessing : s.host.state ≠ .accessing
  uninitIdle : s.mode = .uninit → s.hostWaiting = false
  copyModes : s.copy.isSome = true → s.mode = .normal ∨ s.mode = .quiescing
  atMost8 : s.writeBacks.length ≤ 8
  oneEntryPerWord : (s.writeBacks.map WriteBack.word).Nodup
  emptyUninit : s.mode = .uninit → s.writeBacks = []
  emptyQuiet : s.mode = .quiet → s.writeBacks = []
  roomWhilePassed : s.passed CycleRecord.writeBackPass = true → s.writeBacks.length ≤ 7

theorem State.Ending.release {s : State} (h : s.Ending) : s.release.TrafficSound where
  host := { h.host with }
  queue :=
    { atMost8 := h.atMost8
      oneEntryPerWord := h.oneEntryPerWord
      emptyUninit := h.emptyUninit
      emptyQuiet := h.emptyQuiet
      roomForRead := fun hr => by cases hr
      roomWhilePassed := fun hp => .inl (h.roomWhilePassed hp)
      drainTakesHead := rfl }
  port :=
    { accessUnderGrant := rfl
      freeNotAbandoned := fun _ => rfl
      awardOnFree := fun _ => rfl
      decidedWhileFree := fun _ => rfl
      accessingMeansHost := ⟨fun ha => absurd ha h.notAccessing, fun hp => by cases hp.1⟩
      uninitIdle := fun hm => by
        refine ⟨s.decision_eq_none.mpr ⟨h.uninitIdle hm, h.emptyUninit hm, ?_, .inr (fun hn => ?_), fun hn => ?_⟩,
          h.uninitIdle hm, rfl⟩
        · by_contra hcopy
          have hmodes := h.copyModes (Option.isSome_iff_ne_none.mpr hcopy)
          simp [show s.mode = .uninit from hm] at hmodes
        · cases hn.symm.trans hm
        · cases hn.symm.trans hm
      copyModes := h.copyModes
      openOnlyOutstanding := id
      gapBeforeHostWrite := fun hg => by cases hg }

theorem State.Ending.quietCheck {s : State} (h : s.Ending) : s.quietCheck.Ending := by
  unfold State.quietCheck
  split
  · rename_i hquiet
    obtain ⟨hcopy, hqueue⟩ : s.copy = none ∧ s.writeBacks = [] := by
      simpa [State.quiesceConditions] using hquiet.2
    refine ⟨h.host.of_eq (by simp) (by simp) (by simp) (by simp), by simpa using h.notAccessing, ?_, ?_, ?_, ?_, ?_, ?_, ?_⟩
    all_goals simp [hcopy, hqueue]
  · exact h

theorem State.Ending.of_eq {s t : State} (h : s.Ending) (hhstb : t.hstb = s.hstb) (hheld : t.strobeHeld = s.strobeHeld)
    (hreset : t.hreset = s.hreset) (hhost : t.host = s.host) (hmode : t.mode = s.mode)
    (hcopy : t.copy.isSome = true → s.copy.isSome = true) (hqueue : t.writeBacks.Sublist s.writeBacks) : t.Ending where
  host := h.host.of_eq hhstb hheld hreset hhost
  notAccessing := hhost ▸ h.notAccessing
  uninitIdle := by rw [hmode, State.hostWaiting_of_eq hhost]; exact h.uninitIdle
  copyModes := fun hc => hmode ▸ h.copyModes (hcopy hc)
  atMost8 := hqueue.length_le.trans h.atMost8
  oneEntryPerWord := h.oneEntryPerWord.sublist (hqueue.map _)
  emptyUninit := fun hm => List.sublist_nil.mp (h.emptyUninit (hmode ▸ hm) ▸ hqueue)
  emptyQuiet := fun hm => List.sublist_nil.mp (h.emptyQuiet (hmode ▸ hm) ▸ hqueue)
  roomWhilePassed := fun hp => hqueue.length_le.trans (h.roomWhilePassed (State.passed_of_eq hhost _ ▸ hp))

/-- The copy is dropped, with whatever comes of it in the map, the table and the Report Queue. -/
theorem State.Ending.cancelCopy {s : State} (h : s.Ending) (c : Copy) : (s.cancelCopy c).Ending := by
  refine h.of_eq ?_ ?_ ?_ ?_ ?_ ?_ ?_
  all_goals rw [State.cancelCopy_changes]
  simp [State.cancelCopy, State.dropCopy]

theorem State.Ending.endGrant {s : State} (h : s.Ending) : s.endGrant.TrafficSound := by
  have hresolved : s.resolveAbort.Ending := by
    unfold State.resolveAbort
    split
    · split
      · exact h.cancelCopy _
      · exact h
    · exact h
  exact hresolved.quietCheck.release

/-! ### The grants -/

/-- A waiting cycle that a step's grant passes over is the cycle that it was, but for the flag of the case (R50). -/
theorem State.grantStep_host (s : State) (g : GrantCase) :
    (s.grantStep g).host =
      { s.host with record := if s.host.state = .waiting then s.host.record.map fun r => r.passOver g else s.host.record } := by
  rw [State.grantStep_eq]
  split <;> rfl

theorem CycleRecord.isNullWrite_passOver (r : CycleRecord) (g : GrantCase) : (r.passOver g).isNullWrite = r.isNullWrite := by
  cases g <;> rfl

theorem CycleRecord.writeBackPass_passOver {r : CycleRecord} {g : GrantCase} (hg : g ≠ .urgentDrain) :
    (r.passOver g).writeBackPass = r.writeBackPass := by
  cases g
  case urgentDrain => exact absurd rfl hg
  all_goals rfl

theorem State.HostSound.grantStep {s : State} (h : s.HostSound) (g : GrantCase) : (s.grantStep g).HostSound := by
  have hrecord : (s.grantStep g).host.record.isSome = s.host.record.isSome := by
    rw [State.grantStep_host]
    dsimp only
    split <;> simp
  have hnull : (s.grantStep g).host.record.all (fun r => !r.isNullWrite) = s.host.record.all (fun r => !r.isNullWrite) := by
    rw [State.grantStep_host]
    dsimp only
    split
    · cases s.host.record <;> simp [CycleRecord.isNullWrite_passOver]
    · rfl
  have hhstb : (s.grantStep g).hstb = s.hstb := by rw [State.grantStep_eq]
  have hheld : (s.grantStep g).strobeHeld = s.strobeHeld := by rw [State.grantStep_eq]
  have hreset : (s.grantStep g).hreset = s.hreset := by rw [State.grantStep_eq]
  have hstate : (s.grantStep g).host.state = s.host.state := by rw [State.grantStep_host]
  refine ⟨?_, ?_, ?_, ?_, ?_, ?_, ?_, ?_⟩
  · rw [hrecord, hstate]; exact h.recordWhileHeld
  · rw [State.grantStep_host]; exact h.readyWhileResponding
  · rw [State.grantStep_host]; exact h.errorOnlyReady
  · rw [State.grantStep_host]; exact h.dataOnlyReady
  · rw [hstate, hheld]; exact h.respondingUntilWithdrawn
  · rw [hstate, hheld, hhstb]; exact h.strobeHeldByCycle
  · rw [hstate, hreset]; exact h.abandonedUnderReset
  · rw [hnull, hstate]; exact h.nullWriteNeverWaits

/-- A pass-over flag of the case 1 is set by an urgent drain alone (R50). -/
theorem State.passed_grantStep {s : State} {g : GrantCase} (hg : g ≠ .urgentDrain) :
    (s.grantStep g).passed CycleRecord.writeBackPass = s.passed CycleRecord.writeBackPass := by
  unfold State.passed State.hostWaiting
  rw [State.grantStep_host]
  dsimp only
  split
  · cases s.host.record <;> simp [CycleRecord.writeBackPass_passOver hg]
  · rfl

/-- The state after the grant of a step whose first access is begun, however the patrol cursor was moved. -/
theorem State.TrafficSound.stepGranted {s t : State} {which : Step} {g : GrantCase} {a : Access} (h : s.TrafficSound)
    (hfree : s.port.holder = .free) (hm : s.mode ≠ .uninit) (e : SameTraffic ((s.grantStep g).beginAccess (.step which) a) t)
    (ha : a.holder = .step which) (hcase : g = .urgentDrain → which = .drain)
    (hhead : ∀ word stored, a = .drainWrite word stored →
      s.writeBacks.head?.any (fun w => w.word == word && stored == encode w.data) = true) : t.Ready := by
  have granted : ((s.grantStep g).beginAccess (.step which) a).Ready := by
    have hstate : (s.grantStep g).host.state = s.host.state := by rw [State.grantStep_host]
    have hqueue : (s.grantStep g).writeBacks = s.writeBacks := by rw [State.grantStep_eq]
    have hmode : (s.grantStep g).mode = s.mode := by rw [State.grantStep_eq]
    have hcopy : (s.grantStep g).copy = s.copy := by rw [State.grantStep_eq]
    have hnot : s.host.state ≠ .accessing := fun hacc => by
      have := (h.port.accessingMeansHost.mp hacc).1
      rw [hfree] at this
      cases this
    refine { host := (h.host.grantStep g).of_eq rfl rfl rfl rfl, queue := ?_, award := by rw [State.grantStep_eq]; rfl,
             closed := by rw [State.grantStep_eq]; rfl, accessUnderGrant := ha.symm, freeNotAbandoned := fun _ => rfl,
             accessingMeansHost := ?_, uninitIdle := fun hu => absurd (hmode.symm.trans hu) hm, copyModes := ?_,
             gapBeforeHostWrite := fun hg => (by cases hg), restsOnFree := fun hf => (by cases hf) }
    · refine
        { atMost8 := hqueue ▸ h.queue.atMost8
          oneEntryPerWord := hqueue ▸ h.queue.oneEntryPerWord
          emptyUninit := fun hu => absurd (hmode.symm.trans hu) hm
          emptyQuiet := fun hq => hqueue.trans (h.queue.emptyQuiet (hmode.symm.trans hq))
          roomForRead := ?_
          roomWhilePassed := ?_
          drainTakesHead := ?_ }
      · intro hr
        obtain ⟨word, hword⟩ := (State.hostReadInProgress_iff _).mp hr
        cases Option.some.inj hword
        cases ha
      · intro hp
        by_cases hg : g = .urgentDrain
        · rw [hcase hg]
          exact .inr ⟨rfl, rfl⟩
        · have hbefore := h.queue.roomWhilePassed ((State.passed_grantStep hg).symm.trans hp)
          rw [hfree] at hbefore
          exact hbefore.imp (fun h7 => hqueue ▸ h7) fun hd => by cases hd.1
      · refine (State.drainWritesHead_iff _).mpr fun word stored hdrain => ?_
        exact hqueue ▸ hhead word stored (Option.some.inj hdrain)
    · change (s.grantStep g).host.state = _ ↔ _
      rw [hstate]
      exact ⟨fun hacc => absurd hacc hnot, fun hp => by cases hp.1⟩
    · change (s.grantStep g).copy.isSome = true → (s.grantStep g).mode = _ ∨ (s.grantStep g).mode = _
      rw [hcopy, hmode]
      exact h.port.copyModes
  exact
    { toUndecided := granted.toUndecided.of_same e
      restsOnFree := fun hf => by rw [e.port] at hf; cases hf }

theorem State.TrafficSound.hostGranted {s : State} (h : s.TrafficSound) {g : GrantCase} (hfree : s.port.holder = .free)
    (hm : s.mode ≠ .uninit) (hdec : s.decision = some ⟨.host, g⟩) : s.grantHost.Ready := by
  obtain ⟨hwaiting, hroom⟩ := State.host_of_decision hdec
  have hstate : s.host.state = .waiting := by simpa [State.hostWaiting] using hwaiting
  have hseven : s.writeBacks.length ≤ 7 := by
    rcases hroom with hne | hpassed
    · have := h.queue.atMost8
      omega
    · have := h.queue.roomWhilePassed hpassed
      rw [hfree] at this
      exact this.elim id fun hd => by cases hd.1
  obtain ⟨r, hr⟩ : ∃ r, s.host.record = some r := by
    rw [← Option.isSome_iff_exists, h.host.recordWhileHeld, hstate]
    rfl
  have hkind := h.host.nullWriteNeverWaits (.inl hstate)
  rw [hr, Option.all_some] at hkind
  obtain ⟨a, hfirst, ha, hfollows⟩ : ∃ a, r.kind.firstAccess (s.hostWord r.address) = some a ∧ a.holder = .host ∧
      ∀ word stored, a ≠ .drainWrite word stored := by
    unfold CycleRecord.isNullWrite at hkind
    cases hk : r.kind <;> simp [hk] at hkind <;> exact ⟨_, rfl, rfl, fun _ _ => by simp⟩
  have heq : s.grantHost =
      { s with
        award := none
        decisionOpen := false
        starvation := min 16 (s.starvation + 1)
        host := { s.host with state := .accessing, record := some (s.grantedRecord r) }
        port := { holder := .host, access := some a, gap := false, abandoned := false } } := by
    simp [State.grantHost, hr, hfirst, State.beginAccess]
  rw [heq]
  refine
    { host := ?_
      queue :=
        { atMost8 := h.queue.atMost8
          oneEntryPerWord := h.queue.oneEntryPerWord
          emptyUninit := fun hu => absurd hu hm
          emptyQuiet := h.queue.emptyQuiet
          roomForRead := fun _ => hseven
          roomWhilePassed := fun _ => .inl hseven
          drainTakesHead := (State.drainWritesHead_iff _).mpr fun word stored hd =>
            absurd (Option.some.inj hd) (hfollows word stored) }
      award := rfl
      closed := rfl
      accessUnderGrant := ha.symm
      freeNotAbandoned := fun _ => rfl
      accessingMeansHost := ⟨fun _ => ⟨rfl, rfl⟩, fun _ => rfl⟩
      uninitIdle := fun hu => absurd hu hm
      copyModes := h.port.copyModes
      gapBeforeHostWrite := fun hg => (by cases hg)
      restsOnFree := fun hf => (by cases hf) }
  have hready := h.host.readyWhileResponding
  rw [hstate] at hready
  exact
    { recordWhileHeld := rfl
      readyWhileResponding := hready
      errorOnlyReady := h.host.errorOnlyReady
      dataOnlyReady := h.host.dataOnlyReady
      respondingUntilWithdrawn := fun hs => by cases hs
      strobeHeldByCycle := fun hs => ⟨(h.host.strobeHeldByCycle hs).1, rfl⟩
      abandonedUnderReset := fun hs => by cases hs
      nullWriteNeverWaits := fun _ => hkind }

/-- The state that an event meets (R48, R52). -/
theorem State.TrafficSound.settled {s : State} (h : s.TrafficSound) : s.settled.Ready := by
  cases haward : s.award with
  | none =>
    rw [s.settled_of_award_none haward]
    exact h.ready haward
  | some award =>
    have hfree := h.port.awardOnFree (by simp [haward])
    have hdec : s.decision = some award := (h.port.decidedWhileFree hfree).symm.trans haward
    have hm : s.mode ≠ .uninit := fun hu => by simp [(h.port.uninitIdle hu).1] at haward
    obtain ⟨grantee, g⟩ := award
    have hgrant : s.settled = s.grant ⟨grantee, g⟩ := by rw [State.settled, haward]
    rw [hgrant]
    cases grantee with
    | host => exact h.hostGranted hfree hm hdec
    | step which =>
      have hpresent := State.stepPresent_of_decision hdec
      have hcase : g = .urgentDrain → which = .drain := fun hg => by
        rw [hg] at hdec
        cases State.grantee_of_urgentDrain hdec
        rfl
      cases which with
      | drain =>
        cases hqueue : s.writeBacks with
        | nil => simp [State.stepPresent, hqueue] at hpresent
        | cons w rest =>
          have heq : s.grant ⟨.step .drain, g⟩ =
              (s.grantStep g).beginAccess (.step .drain) (.drainWrite w.word (encode w.data)) := by
            simp [State.grant, State.grantDrain, hqueue]
          rw [heq]
          refine h.stepGranted hfree hm .refl rfl hcase ?_
          rintro _ _ ⟨⟩
          simp [hqueue]
      | patrol =>
        have hdebt : SameTraffic (s.grantStep g)
            { s.grantStep g with patrol := { (s.grantStep g).patrol with debt := (s.grantStep g).patrol.debt - 1 } } :=
          ⟨rfl, rfl, rfl, rfl, rfl, rfl, rfl, rfl, rfl, rfl⟩
        have hstep := (hdebt.trans (State.sameTraffic_checkPatrolLine _)).beginAccess (holder := .step .patrol)
          (a := .patrolRead (wordAt (s.grant ⟨.step .patrol, g⟩).patrol.line (s.grant ⟨.step .patrol, g⟩).patrol.index))
        exact h.stepGranted hfree hm hstep rfl hcase fun _ _ hd => by cases hd
      | copy =>
        obtain ⟨c, hc⟩ := Option.isSome_iff_exists.mp hpresent
        have heq : s.grant ⟨.step .copy, g⟩ =
            (s.grantStep g).beginAccess (.step .copy) (.copyRead (wordAt c.sourceLine c.cursor)) := by
          simp [State.grant, State.grantCopy, hc]
        rw [heq]
        exact h.stepGranted hfree hm .refl rfl hcase fun _ _ hd => by cases hd
      | sweep => exact h.stepGranted hfree hm .refl rfl hcase fun _ _ hd => by cases hd

end Sys2Proof.Machine
end

section
/-! SUPPORT. Every command on the state that it meets keeps the host's side of the part in agreement (O12). -/

namespace Sys2Proof.Machine

/-! ### Operations that the traffic does not read -/

theorem State.sameTraffic_writeCell (s : State) (a : Nat) (w : StoredWord) : SameTraffic s (s.writeCell a w) := by
  constructor <;> simp

theorem State.sameTraffic_readCells (s : State) (a : Nat) (w : StoredWord) : SameTraffic s (s.readCells a w).2 := by
  constructor <;> simp

theorem State.sameTraffic_append (s : State) (r : Report) : SameTraffic s (s.append r) := by
  constructor <;> simp

theorem State.sameTraffic_correctedRead (s : State) (word : Nat) (cls : ErrorClass) (source : EventSource) :
    SameTraffic s (s.correctedRead word cls source) := by
  constructor <;> simp

theorem State.sameTraffic_uncorrectableRead (s : State) (own : Report) (word : Nat) (cls : ErrorClass)
    (source : EventSource) : SameTraffic s (s.uncorrectableRead own word cls source) := by
  constructor <;> simp

theorem State.sameTraffic_advancePatrol (s : State) : SameTraffic s s.advancePatrol := by
  constructor <;> simp

/-! ### The access in progress -/

theorem State.Undecided.holder_of_live {s : State} (h : s.Undecided) {a : Access} (hlive : s.liveAccess = some a) :
    s.port.holder = a.holder ∧ s.port.abandoned = false ∧ s.port.access = some a := by
  have habandoned : s.port.abandoned = false := by
    by_contra hab
    rw [s.liveAccess_of_abandoned (by simpa using hab)] at hlive
    cases hlive
  rw [s.liveAccess_of_not_abandoned habandoned] at hlive
  refine ⟨?_, habandoned, hlive⟩
  rw [h.accessUnderGrant, hlive]
  rfl

theorem Access.holder_ne_free (a : Access) : a.holder ≠ .free := by
  cases a <;> simp [Access.holder]

theorem State.Undecided.mode_of_live {s : State} (h : s.Undecided) {a : Access} (hlive : s.liveAccess = some a) :
    s.mode ≠ .uninit := fun hm => by simp [(h.uninitIdle hm).2] at hlive

theorem State.Undecided.accessing_of_live {s : State} (h : s.Undecided) {a : Access} (hlive : s.liveAccess = some a)
    (ha : a.holder = .host) : s.host.state = .accessing := by
  obtain ⟨hholder, habandoned, -⟩ := h.holder_of_live hlive
  exact h.accessingMeansHost.mpr ⟨hholder.trans ha, habandoned⟩

theorem State.Undecided.notAccessing_of_live {s : State} (h : s.Undecided) {a : Access} (hlive : s.liveAccess = some a)
    (ha : a.holder ≠ .host) : s.host.state ≠ .accessing := fun hacc => by
  obtain ⟨hholder, -, -⟩ := h.holder_of_live hlive
  exact ha (hholder.symm.trans (h.accessingMeansHost.mp hacc).1)

/-- The next access of the grant in progress. -/
theorem State.Undecided.continues {s : State} (h : s.Undecided) {a b : Access} (hlive : s.liveAccess = some a) {gap : Bool}
    (n : Nat) (hb : b.holder = a.holder) (hgap : gap = true → b.followsInGrant = true)
    (hread : ∀ word, b ≠ .hostRead word) (hdrain : ∀ word stored, b ≠ .drainWrite word stored) :
    ({ s with port := { s.port with access := some b, gap := gap }, freeIndex := n } : State).TrafficSound := by
  obtain ⟨hholder, habandoned, haccess⟩ := h.holder_of_live hlive
  have hlive' : ({ s with port := { s.port with access := some b, gap := gap }, freeIndex := n } : State).liveAccess =
      some b := State.liveAccess_of_not_abandoned _ habandoned
  have held : ({ s with port := { s.port with access := some b, gap := gap }, freeIndex := n } : State).Undecided :=
    { host := { h.host with }
      queue :=
        { h.queue with
          roomForRead := fun hr => by
            obtain ⟨word, hword⟩ := (State.hostReadInProgress_iff _).mp hr
            exact absurd (Option.some.inj (hlive'.symm.trans hword)) (hread word)
          drainTakesHead := (State.drainWritesHead_iff _).mpr fun word stored hd =>
            absurd (Option.some.inj (hlive'.symm.trans hd)) (hdrain word stored) }
      award := h.award
      closed := h.closed
      accessUnderGrant := hholder.trans hb.symm
      freeNotAbandoned := h.freeNotAbandoned
      accessingMeansHost := h.accessingMeansHost
      uninitIdle := fun hu => absurd hu (h.mode_of_live hlive)
      copyModes := h.copyModes
      gapBeforeHostWrite := fun hg => ⟨habandoned, hgap hg⟩ }
  exact held.sound fun hf => absurd (hholder.symm.trans hf) a.holder_ne_free

/-- A write made known to the queue during a grant that is no drain (R67). -/
theorem State.Undecided.supersede {s : State} (h : s.Undecided) {a : Access} (hlive : s.liveAccess = some a)
    (ha : ∀ word stored, a ≠ .drainWrite word stored) (word : Nat) : (s.supersede word).Undecided := by
  have hsub : (s.supersede word).writeBacks.Sublist s.writeBacks := List.filter_sublist
  have hlength := hsub.length_le
  exact
    { host := { h.host with }
      queue :=
        { atMost8 := hlength.trans h.queue.atMost8
          oneEntryPerWord := h.queue.oneEntryPerWord.sublist (hsub.map _)
          emptyUninit := fun hu => List.sublist_nil.mp (h.queue.emptyUninit hu ▸ hsub)
          emptyQuiet := fun hq => List.sublist_nil.mp (h.queue.emptyQuiet hq ▸ hsub)
          roomForRead := fun hr => hlength.trans (h.queue.roomForRead hr)
          roomWhilePassed := fun hp => (h.queue.roomWhilePassed hp).imp hlength.trans id
          drainTakesHead := (State.drainWritesHead_iff _).mpr fun word stored hd =>
            absurd (Option.some.inj (hlive.symm.trans hd)) (ha word stored) }
      award := h.award
      closed := h.closed
      accessUnderGrant := h.accessUnderGrant
      freeNotAbandoned := h.freeNotAbandoned
      accessingMeansHost := h.accessingMeansHost
      uninitIdle := h.uninitIdle
      copyModes := h.copyModes
      gapBeforeHostWrite := h.gapBeforeHostWrite }

/-! ### The response -/

/-- A response leaves the controller sound, whatever state it was in with a cycle on record. -/
theorem State.respond_sound {s : State} (hhstb : s.strobeHeld = true → s.hstb = true)
    (hrecord : s.host.record.isSome = true) (o : HostOutcome) (hd : Option DataWord) :
    (s.respond o hd).HostSound ∧ (s.respond o hd).host.state ≠ .accessing ∧ (s.respond o hd).hostWaiting = false := by
  unfold State.respond
  split
  · rename_i hheld
    refine ⟨?_, nofun, rfl⟩
    exact
      { recordWhileHeld := by simpa [HostState.holdsCycle] using hrecord
        readyWhileResponding := rfl
        errorOnlyReady := fun _ => rfl
        dataOnlyReady := fun _ => rfl
        respondingUntilWithdrawn := fun _ => hheld
        strobeHeldByCycle := fun _ => ⟨hhstb hheld, rfl⟩
        abandonedUnderReset := nofun
        nullWriteNeverWaits := nofun }
  · rename_i hheld
    refine ⟨?_, nofun, rfl⟩
    exact
      { recordWhileHeld := rfl
        readyWhileResponding := rfl
        errorOnlyReady := nofun
        dataOnlyReady := nofun
        respondingUntilWithdrawn := nofun
        strobeHeldByCycle := fun hs => absurd hs hheld
        abandonedUnderReset := nofun
        nullWriteNeverWaits := nofun }

/-- What must hold of a state whose host cycle is answered at the end of its grant. -/
structure State.Answering (s : State) : Prop where
  host : s.HostSound
  record : s.host.record.isSome = true
  copyModes : s.copy.isSome = true → s.mode = .normal ∨ s.mode = .quiescing
  atMost8 : s.writeBacks.length ≤ 8
  oneEntryPerWord : (s.writeBacks.map WriteBack.word).Nodup
  emptyUninit : s.mode = .uninit → s.writeBacks = []
  emptyQuiet : s.mode = .quiet → s.writeBacks = []

theorem State.Answering.finishHost {s : State} (h : s.Answering) (o : HostOutcome) (hd : Option DataWord) :
    (s.finishHost o hd).TrafficSound := by
  obtain ⟨hhost, hnot, hwaiting⟩ := State.respond_sound (fun hs => (h.host.strobeHeldByCycle hs).1) h.record o hd
  refine State.Ending.endGrant
    { host := hhost
      notAccessing := hnot
      uninitIdle := fun _ => hwaiting
      copyModes := ?_
      atMost8 := ?_
      oneEntryPerWord := ?_
      emptyUninit := ?_
      emptyQuiet := ?_
      roomWhilePassed := fun hp => by simp [State.passed, hwaiting] at hp }
  · simpa using h.copyModes
  · simpa using h.atMost8
  · simpa using h.oneEntryPerWord
  · simpa using h.emptyUninit
  · simpa using h.emptyQuiet

theorem State.Undecided.answering {s : State} (h : s.Undecided) {a : Access} (hlive : s.liveAccess = some a)
    (ha : a.holder = .host) : s.Answering where
  host := h.host
  record := by rw [h.host.recordWhileHeld, h.accessing_of_live hlive ha]; rfl
  copyModes := h.copyModes
  atMost8 := h.queue.atMost8
  oneEntryPerWord := h.queue.oneEntryPerWord
  emptyUninit := h.queue.emptyUninit
  emptyQuiet := h.queue.emptyQuiet

theorem State.Answering.of_same {s t : State} (h : s.Answering) (e : SameTraffic s t) : t.Answering where
  host := h.host.of_eq e.hstb e.strobeHeld e.hreset e.host
  record := e.host ▸ h.record
  copyModes := by rw [e.copy, e.mode]; exact h.copyModes
  atMost8 := e.writeBacks ▸ h.atMost8
  oneEntryPerWord := e.writeBacks ▸ h.oneEntryPerWord
  emptyUninit := by rw [e.writeBacks, e.mode]; exact h.emptyUninit
  emptyQuiet := by rw [e.writeBacks, e.mode]; exact h.emptyQuiet

/-- A write-back request finds room in the queue, and makes no second entry for a word (R62, R63, R64). -/
theorem State.Answering.requestWriteBack {s : State} (h : s.Answering) (hroom : s.writeBacks.length ≤ 7)
    (hu : s.mode ≠ .uninit) (hq : s.mode ≠ .quiet) (word : Nat) (data : DataWord) :
    (s.requestWriteBack word data).Answering := by
  unfold State.requestWriteBack
  split
  · exact h
  · rename_i hnew
    exact
      { host := { h.host with }
        record := h.record
        copyModes := h.copyModes
        atMost8 := by simp; omega
        oneEntryPerWord := by
          rw [List.map_append]
          refine List.Nodup.append h.oneEntryPerWord (List.nodup_singleton _) ?_
          rw [List.map_singleton, List.disjoint_singleton]
          rintro hmem
          obtain ⟨w, hw, heq⟩ := List.mem_map.mp hmem
          exact hnew (List.any_eq_true.mpr ⟨w, hw, beq_iff_eq.mpr heq⟩)
        emptyUninit := fun hm => absurd hm hu
        emptyQuiet := fun hm => absurd hm hq }

/-! ### The completions of a host grant -/

theorem State.Ready.hostReadDecoded {s : State} (h : s.Ready) {word word' : Nat} (hlive : s.liveAccess = some (.hostRead word))
    {t : State} (e : SameTraffic s t) (r : CycleRecord) (d : Decoded) :
    (t.hostReadDecoded r word' d).TrafficSound := by
  have ht := h.toUndecided.of_same e
  have hlive' : t.liveAccess = some (.hostRead word) := (State.liveAccess_of_eq e.port).trans hlive
  have answering := ht.answering hlive' rfl
  unfold State.hostReadDecoded State.hostReadError
  split
  · split
    · split
      · have same := t.sameTraffic_correctedRead word' ‹_› .host
        exact (ht.of_same same).continues ((State.liveAccess_of_eq same.port).trans hlive') _ rfl (fun _ => rfl) nofun nofun
      · rename_i hinline
        simp only [State.repairsInline, Bool.or_eq_true, not_or] at hinline
        have hroom := ht.queue.roomForRead ((State.hostReadInProgress_iff t).mpr ⟨word, hlive'⟩)
        exact ((answering.requestWriteBack hroom (ht.mode_of_live hlive') (by simpa using hinline.1) _ _).of_same
          (State.sameTraffic_correctedRead _ _ _ _)).finishHost _ _
    · exact (answering.of_same (t.sameTraffic_uncorrectableRead _ _ _ _)).finishHost _ _
  · split
    · exact (answering.of_same (t.sameTraffic_append _)).finishHost _ _
    · exact answering.finishHost _ _

theorem State.Ready.mergeDecoded {s : State} (h : s.Ready) {word word' : Nat} (hlive : s.liveAccess = some (.mergeRead word))
    {t : State} (e : SameTraffic s t) (r : CycleRecord) (data : DataWord) (d : Decoded) :
    (t.mergeDecoded r data word' d).TrafficSound := by
  have ht := h.toUndecided.of_same e
  have hlive' : t.liveAccess = some (.mergeRead word) := (State.liveAccess_of_eq e.port).trans hlive
  have answering := ht.answering hlive' rfl
  unfold State.mergeDecoded State.refuseMerge State.makeMerge
  split
  · refine State.Answering.finishHost ?_ _ _
    split
    · exact answering.of_same (t.sameTraffic_uncorrectableRead _ _ _ _)
    · exact answering.of_same (t.sameTraffic_append _)
  · dsimp only
    split
    · have same := t.sameTraffic_correctedRead word' ‹_› .host
      exact (ht.of_same same).continues ((State.liveAccess_of_eq same.port).trans hlive') _ rfl (fun _ => rfl) nofun nofun
    · exact ht.continues hlive' _ rfl (fun _ => rfl) nofun nofun

theorem State.Ready.written {s : State} (h : s.Ready) {a : Access} (hlive : s.liveAccess = some a) (word : Nat)
    (w : StoredWord) : (s.writeCell word w).Undecided ∧ (s.writeCell word w).liveAccess = some a :=
  ⟨h.toUndecided.of_same (s.sameTraffic_writeCell word w), hlive⟩

/-! ### The completions of the steps -/

/-- A step's grant ends, and the queue is none the longer. -/
theorem State.Undecided.ending {s : State} (h : s.Undecided) {a : Access} (hlive : s.liveAccess = some a)
    (ha : a.holder ≠ .host) (hdrain : a.holder ≠ .step .drain) : s.Ending where
  host := h.host
  notAccessing := h.notAccessing_of_live hlive ha
  uninitIdle := fun hm => (h.uninitIdle hm).1
  copyModes := h.copyModes
  atMost8 := h.queue.atMost8
  oneEntryPerWord := h.queue.oneEntryPerWord
  emptyUninit := h.queue.emptyUninit
  emptyQuiet := h.queue.emptyQuiet
  roomWhilePassed := fun hp => (h.queue.roomWhilePassed hp).elim id fun hd =>
    absurd ((h.holder_of_live hlive).1.symm.trans hd.1) hdrain

/-- A drain's grant ends, and its head entry leaves the queue (R65). -/
theorem State.Undecided.drainEnding {s : State} (h : s.Undecided) {word : Nat} {stored : StoredWord}
    (hlive : s.liveAccess = some (.drainWrite word stored)) : ({ s with writeBacks := s.writeBacks.tail } : State).Ending where
  host := { h.host with }
  notAccessing := h.notAccessing_of_live hlive (by simp [Access.holder])
  uninitIdle := fun hm => (h.uninitIdle hm).1
  copyModes := h.copyModes
  atMost8 := by
    have := h.queue.atMost8
    simp
    omega
  oneEntryPerWord := h.queue.oneEntryPerWord.sublist ((List.tail_sublist _).map _)
  emptyUninit := fun hm => by simp [h.queue.emptyUninit hm]
  emptyQuiet := fun hm => by simp [h.queue.emptyQuiet hm]
  roomWhilePassed := fun _ => by
    have := h.queue.atMost8
    simp
    omega

theorem State.Ready.patrolReadDecoded {s : State} (h : s.Ready) {word word' : Nat}
    (hlive : s.liveAccess = some (.patrolRead word)) {t : State} (e : SameTraffic s t) (d : Decoded) :
    (t.patrolReadDecoded word' d).TrafficSound := by
  have ht := h.toUndecided.of_same e
  have hlive' : t.liveAccess = some (.patrolRead word) := (State.liveAccess_of_eq e.port).trans hlive
  have ends {u : State} (e' : SameTraffic t u) : u.advancePatrol.endGrant.TrafficSound := by
    have e'' := e'.trans u.sameTraffic_advancePatrol
    exact ((ht.of_same e'').ending ((State.liveAccess_of_eq e''.port).trans hlive') (by simp [Access.holder])
      (by simp [Access.holder])).endGrant
  unfold State.patrolReadDecoded
  split
  · split
    · have same := t.sameTraffic_correctedRead word' ‹_› .patrol
      exact (ht.of_same same).continues ((State.liveAccess_of_eq same.port).trans hlive') _ rfl nofun nofun nofun
    · exact ends (t.sameTraffic_uncorrectableRead _ _ _ _)
  · exact ends .refl

theorem State.Ready.copyReadDecoded {s : State} (h : s.Ready) {word word' : Nat}
    (hlive : s.liveAccess = some (.copyRead word)) {t : State} (e : SameTraffic s t) (c : Copy) (d : Decoded) :
    (t.copyReadDecoded c word' d).TrafficSound := by
  have next {u : State} (e' : SameTraffic s u) (b : Access) (hb : b.holder = .step .copy)
      (hdrain : ∀ word stored, b ≠ .drainWrite word stored) (hread : ∀ word, b ≠ .hostRead word) :
      (u.nextAccess b).TrafficSound :=
    (h.toUndecided.of_same e').continues ((State.liveAccess_of_eq e'.port).trans hlive) _ hb nofun hread hdrain
  unfold State.copyReadDecoded
  dsimp only
  split
  · exact next (e.trans (t.sameTraffic_append _)) _ rfl nofun nofun
  · exact next e _ rfl nofun nofun

/-- A copy step ends in a moved cursor, a commit, or nothing where an abort is pending. -/
theorem State.Ending.copyStepEnds {s : State} (h : s.Ending) {c : Copy} (hc : s.copy = some c) (source : DecodeClass) :
    (s.copyStepEnds c source).Ending := by
  unfold State.copyStepEnds
  split
  · exact h
  split
  · refine h.of_eq ?_ ?_ ?_ ?_ ?_ ?_ ?_
    all_goals rw [State.commitCopy_changes]
    · simp [hc]
    · simp only [State.commitCopy, State.append_writeBacks, State.removeHealth_writeBacks]
      have hqueue : (s.commitSlots (c.stepped source).target (c.stepped source).sourceSlot).writeBacks = s.writeBacks := by
        unfold State.commitSlots
        cases (c.stepped source).sourceSlot <;> rfl
      exact hqueue ▸ List.filter_sublist
  · exact h.of_eq rfl rfl rfl rfl rfl (fun _ => by simp [hc]) (List.Sublist.refl _)

/-- The entry into NORMAL, which asks nothing of the queue or the context. -/
theorem State.Ending.enterNormal {s : State} (h : s.Ending) : s.enterNormal.Ending where
  host := { h.host with }
  notAccessing := h.notAccessing
  uninitIdle := nofun
  copyModes := fun _ => .inl rfl
  atMost8 := h.atMost8
  oneEntryPerWord := h.oneEntryPerWord
  emptyUninit := nofun
  emptyQuiet := nofun
  roomWhilePassed := h.roomWhilePassed

theorem State.Ending.advanceSweep {s : State} (h : s.Ending) : s.advanceSweep.Ending := by
  have moved (line index : Nat) : ({ s with sweepLine := line, sweepIndex := index } : State).Ending :=
    h.of_eq rfl rfl rfl rfl rfl id (List.Sublist.refl _)
  unfold State.advanceSweep
  split
  · exact moved s.sweepLine (s.sweepIndex + 1)
  · dsimp only
    split
    · refine (moved (s.sweepLine + 1) 0).enterNormal.of_eq ?_ ?_ ?_ ?_ ?_ ?_ ?_
      all_goals simp [State.sweepDone]
    · exact moved (s.sweepLine + 1) 0

/-! ### A waiting cycle, and the end of one without a grant -/

/-- A controller that does not access, before an answer without a grant and after it, is sound together with the port. -/
theorem State.Undecided.answered {s t : State} (h : s.Undecided) (hhost : t.HostSound) (hnot : s.host.state ≠ .accessing)
    (hnot' : t.host.state ≠ .accessing) (hwaiting : t.hostWaiting = false)
    (e : SameTraffic s { t with hstb := s.hstb, strobeHeld := s.strobeHeld, hreset := s.hreset, host := s.host }) :
    t.Undecided := by
  have same := h.of_same e
  exact
    { host := hhost
      queue := ⟨same.queue.atMost8, same.queue.oneEntryPerWord, same.queue.emptyUninit, same.queue.emptyQuiet,
        same.queue.roomForRead, fun hp => (by simp [State.passed, hwaiting] at hp), same.queue.drainTakesHead⟩
      award := same.award
      closed := same.closed
      accessUnderGrant := same.accessUnderGrant
      freeNotAbandoned := same.freeNotAbandoned
      accessingMeansHost := ⟨fun hacc => absurd hacc hnot', fun hp => absurd (same.accessingMeansHost.mpr hp) hnot⟩
      uninitIdle := fun hm => ⟨hwaiting, (same.uninitIdle hm).2⟩
      copyModes := same.copyModes
      gapBeforeHostWrite := same.gapBeforeHostWrite }

theorem State.Ready.answered {s t : State} (h : s.Ready) (hhost : t.HostSound) (hnot : s.host.state ≠ .accessing)
    (hnot' : t.host.state ≠ .accessing) (hwaiting : t.hostWaiting = false)
    (e : SameTraffic s { t with hstb := s.hstb, strobeHeld := s.strobeHeld, hreset := s.hreset, host := s.host })
    (hdebt : t.patrol.debt = s.patrol.debt) : t.Ready where
  toUndecided := h.toUndecided.answered hhost hnot hnot' hwaiting e
  restsOnFree := fun hf => by
    obtain ⟨-, hqueue, hcopy, hrest, hsweep⟩ :=
      (State.decision_eq_none _).mp ((h.of_same e hdebt.le).restsOnFree hf)
    exact t.decision_eq_none.mpr ⟨hwaiting, hqueue, hcopy, hrest, hsweep⟩

end Sys2Proof.Machine
end

section
/-! SUPPORT. The commands that are no completions, and the invariant of the traffic over every step (O12). -/

namespace Sys2Proof.Machine

/-! ### Strobes -/

theorem State.refuseCycle_sound {s : State} (hhstb : s.strobeHeld = true → s.hstb = true) (r : CycleRecord)
    (reason : RefusalReason) :
    (s.refuseCycle r reason).HostSound ∧ (s.refuseCycle r reason).host.state ≠ .accessing ∧
      (s.refuseCycle r reason).hostWaiting = false := by
  unfold State.refuseCycle
  exact State.respond_sound (by simpa using hhstb) (by simp) _ _

theorem State.Ready.strobe {s : State} (h : s.Ready) (hidle : s.host.state = .idle) (address : HostAddress) (isWrite : Bool)
    (enables : BitVec 4) (data : DataWord) :
    (({ s with hstb := true, strobeHeld := true } : State).strobe (newRecord address isWrite enables data)).TrafficSound := by
  have hnot : s.host.state ≠ .accessing := by simp [hidle]
  unfold State.strobe
  split
  · obtain ⟨hhost, hnot', hwaiting⟩ := State.refuseCycle_sound (s := { s with hstb := true, strobeHeld := true })
      (fun _ => rfl) { newRecord address isWrite enables data with word := ‹_› } ‹_›
    refine (h.answered hhost hnot hnot' hwaiting ?_ (by rw [State.refuseCycle_changes])).sound
    constructor <;> rw [State.refuseCycle_changes]
  · rename_i word hadmitted
    have hm : s.mode ≠ .uninit := fun hu => by
      have hu' : ({ s with hstb := true, strobeHeld := true } : State).mode = .uninit := hu
      rw [State.admission, if_pos hu'] at hadmitted
      cases hadmitted
    dsimp only
    split
    · obtain ⟨hhost, hnot', hwaiting⟩ := State.respond_sound
        (s := { s with
          hstb := true
          strobeHeld := true
          host := { s.host with record := some { newRecord address isWrite enables data with word := some word } } })
        (fun _ => rfl) rfl .okay none
      refine (h.answered hhost hnot hnot' hwaiting ?_ (by simp)).sound
      constructor <;> simp
    · rename_i hkind
      have hready := h.host.readyWhileResponding
      rw [hidle] at hready
      refine State.Undecided.arbitrate
        { host :=
            { recordWhileHeld := rfl
              readyWhileResponding := hready
              errorOnlyReady := h.host.errorOnlyReady
              dataOnlyReady := h.host.dataOnlyReady
              respondingUntilWithdrawn := nofun
              strobeHeldByCycle := fun _ => ⟨rfl, rfl⟩
              abandonedUnderReset := nofun
              nullWriteNeverWaits := fun _ => ?_ }
          queue := ⟨h.queue.atMost8, h.queue.oneEntryPerWord, h.queue.emptyUninit, h.queue.emptyQuiet, h.queue.roomForRead,
            nofun, h.queue.drainTakesHead⟩
          award := h.award
          closed := h.closed
          accessUnderGrant := h.accessUnderGrant
          freeNotAbandoned := h.freeNotAbandoned
          accessingMeansHost := ⟨nofun, fun hp => absurd (h.accessingMeansHost.mpr hp) hnot⟩
          uninitIdle := fun hu => absurd hu hm
          copyModes := h.copyModes
          gapBeforeHostWrite := h.gapBeforeHostWrite }
      rw [Option.all_some]
      unfold CycleRecord.isNullWrite
      split
      · exact absurd ‹_› (hkind _)
      · rfl

/-! ### Changes of the mode -/

theorem State.Undecided.changeMode {s : State} (h : s.Undecided) {m : Mode} (hu : m ≠ .uninit)
    (hq : m = .quiet → s.writeBacks = []) (hc : s.copy.isSome = true → m = .normal ∨ m = .quiescing) :
    ({ s with mode := m } : State).Undecided where
  host := { h.host with }
  queue := ⟨h.queue.atMost8, h.queue.oneEntryPerWord, fun hm => absurd hm hu, hq, h.queue.roomForRead,
    h.queue.roomWhilePassed, h.queue.drainTakesHead⟩
  award := h.award
  closed := h.closed
  accessUnderGrant := h.accessUnderGrant
  freeNotAbandoned := h.freeNotAbandoned
  accessingMeansHost := h.accessingMeansHost
  uninitIdle := fun hm => absurd hm hu
  copyModes := hc
  gapBeforeHostWrite := h.gapBeforeHostWrite

/-- A mode in which no step becomes present. -/
theorem State.Ready.changeMode {s : State} (h : s.Ready) {m : Mode} (hu : m ≠ .uninit) (hsweep : m ≠ .sweeping)
    (hdebt : m = .normal → s.patrol.debt = 0) (hq : m = .quiet → s.writeBacks = [])
    (hc : s.copy.isSome = true → m = .normal ∨ m = .quiescing) : ({ s with mode := m } : State).Ready where
  toUndecided := h.toUndecided.changeMode hu hq hc
  restsOnFree := fun hf => by
    obtain ⟨hwaiting, hqueue, hcopy, -, -⟩ := s.decision_eq_none.mp (h.restsOnFree hf)
    refine (State.decision_eq_none _).mpr ⟨hwaiting, hqueue, hcopy, ?_, hsweep⟩
    by_cases hn : m = .normal
    · exact .inl (hdebt hn)
    · exact .inr hn

theorem State.Ready.quietCheck {s : State} (h : s.Ready) : s.quietCheck.Ready := by
  unfold State.quietCheck
  split
  · rename_i hquiet
    obtain ⟨hcopy, hqueue⟩ : s.copy = none ∧ s.writeBacks = [] := by
      simpa [State.quiesceConditions] using hquiet.2
    have quiet : ({ s with mode := .quiet } : State).Ready :=
      h.changeMode nofun nofun nofun (fun _ => hqueue) fun hc => by simp [hcopy] at hc
    exact quiet.of_same (State.sameTraffic_append _ _) (by simp)
  · exact h

theorem State.Ready.restPatrol {s : State} (h : s.Ready) : s.restPatrol.Ready :=
  h.of_same ⟨rfl, rfl, rfl, rfl, rfl, rfl, rfl, rfl, rfl, rfl⟩ (Nat.zero_le _)

theorem State.Ready.enterNormal {s : State} (h : s.Ready) : s.enterNormal.Ready :=
  (h.restPatrol.changeMode (m := .normal) nofun nofun (fun _ => rfl) nofun fun _ => .inl rfl).of_same
    ⟨rfl, rfl, rfl, rfl, rfl, rfl, rfl, rfl, rfl, rfl⟩ (Nat.le_refl _)

theorem State.Ready.cancelCopy {s : State} (h : s.Ready) (c : Copy) : (s.cancelCopy c).Ready := by
  have dropped : ({ s with copy := none } : State).Ready :=
    { host := { h.host with }
      queue := { h.queue with }
      award := h.award
      closed := h.closed
      accessUnderGrant := h.accessUnderGrant
      freeNotAbandoned := h.freeNotAbandoned
      accessingMeansHost := h.accessingMeansHost
      uninitIdle := h.uninitIdle
      copyModes := nofun
      gapBeforeHostWrite := h.gapBeforeHostWrite
      restsOnFree := fun hf => by
        obtain ⟨hwaiting, hqueue, -, hrest, hsweep⟩ := s.decision_eq_none.mp (h.restsOnFree hf)
        exact (State.decision_eq_none _).mpr ⟨hwaiting, hqueue, rfl, hrest, hsweep⟩ }
  refine dropped.of_same ?_ (by rw [State.cancelCopy_changes])
  constructor
  all_goals rw [State.cancelCopy_changes]
  simp [State.cancelCopy, State.dropCopy]

/-! ### The commands of the management port -/

theorem SettingWrite.sameTraffic {s t : State} {v : Nat} (hw : SettingWrite s v t) :
    SameTraffic s t ∧ t.patrol.debt ≤ s.patrol.debt := by
  cases hw
  case debtLimit => exact ⟨⟨rfl, rfl, rfl, rfl, rfl, rfl, rfl, rfl, rfl, rfl⟩, Nat.min_le_left _ _⟩
  case memoryLines =>
    refine ⟨⟨rfl, rfl, rfl, rfl, rfl, rfl, rfl, rfl, rfl, rfl⟩, ?_⟩
    simp only [State.setMemoryLinesLog2, State.removeHealth_patrol]
    split <;> exact Nat.le_refl _
  all_goals exact ⟨⟨rfl, rfl, rfl, rfl, rfl, rfl, rfl, rfl, rfl, rfl⟩, Nat.le_refl _⟩

theorem State.Ready.cancelInFlight {s : State} (h : s.Ready) {c : Copy} (hc : s.copy = some c) :
    (s.cancelInFlight c).Ready := by
  unfold State.cancelInFlight
  split
  · exact h.of_same ⟨rfl, rfl, rfl, rfl, rfl, rfl, rfl, rfl, rfl, by simp [hc]⟩ (Nat.le_refl _)
  · exact (h.cancelCopy c).quietCheck

theorem State.Ready.runCancel {s : State} (h : s.Ready) (line : Nat) : (s.runCancel line).2.TrafficSound := by
  unfold State.runCancel
  split
  · exact h.sound
  split
  · rename_i c hc
    exact (h.cancelInFlight (Option.filter_eq_some_iff.mp hc).1).sound
  split
  · exact (h.of_same (t := s.cancelQueued line) ⟨rfl, rfl, rfl, rfl, rfl, rfl, rfl, rfl, rfl, rfl⟩ (Nat.le_refl _)).sound
  · exact h.sound

theorem State.Ready.runMapPreset {s : State} (h : s.Ready) (line : Nat) : (s.runMapPreset line).2.TrafficSound := by
  unfold State.runMapPreset
  split
  · exact h.sound
  split
  · exact h.sound
  split
  · exact h.sound
  split
  · exact h.sound
  · exact State.Ready.sound (h.of_same ⟨rfl, rfl, rfl, rfl, rfl, rfl, rfl, rfl, rfl, rfl⟩ (Nat.le_refl _))

theorem State.Ready.runMigrate {s : State} (h : s.Ready) (line : Nat) : (s.runMigrate line).2.TrafficSound := by
  unfold State.runMigrate
  split
  · exact h.sound
  split
  · exact h.sound
  split
  · exact h.sound
  · exact h.sound
  · dsimp only
    rw [State.intake_changes]
    exact State.Ready.sound (h.of_same ⟨rfl, rfl, rfl, rfl, rfl, rfl, rfl, rfl, rfl, rfl⟩ (Nat.le_refl _))

theorem State.Ready.runWriteSetting {s : State} (h : s.Ready) (identifier : Byte) (value : BitVec 16) :
    (s.runWriteSetting identifier value).2.TrafficSound := by
  obtain ⟨e, hdebt⟩ := (s.putSetting_write identifier value.toNat).sameTraffic
  unfold State.runWriteSetting
  dsimp only
  split <;> exact (h.of_same e hdebt).sound

/-- START_SWEEP refuses a waiting cycle, and S becomes present (R22, R161). -/
theorem State.Ready.runStartSweep {s : State} (h : s.Ready) : s.runStartSweep.2.TrafficSound := by
  unfold State.runStartSweep
  split
  · rename_i hm
    have begun : ({ s with mode := .sweeping, sweepLine := 0, sweepIndex := 0 } : State).Undecided :=
      (h.toUndecided.changeMode (m := .sweeping) nofun nofun fun hc => by
        rcases h.copyModes hc with hn | hn <;> simp [hn] at hm).of_same
          ⟨rfl, rfl, rfl, rfl, rfl, rfl, rfl, rfl, rfl, rfl⟩
    refine State.Undecided.arbitrate ?_
    unfold State.refuseWaiting
    split
    · rename_i hwaiting
      have hstate : s.host.state = .waiting := by simpa [State.hostWaiting] using hwaiting
      split
      · rename_i r _
        obtain ⟨hhost, hnot, hnow⟩ := State.refuseCycle_sound
          (s := { s with mode := .sweeping, sweepLine := 0, sweepIndex := 0 })
          (fun hs => (h.host.strobeHeldByCycle hs).1) r .notReady
        refine begun.answered hhost (by simp [hstate]) hnot hnow ?_
        constructor <;> rw [State.refuseCycle_changes]
      · exact begun
    · exact begun
  · exact h.sound

theorem State.Ready.runQuiesce {s : State} (h : s.Ready) : s.runQuiesce.2.TrafficSound := by
  unfold State.runQuiesce
  split
  · rename_i hm
    have quiescing : ({ s with mode := .quiescing } : State).Ready :=
      h.changeMode nofun nofun nofun nofun fun _ => .inr rfl
    exact quiescing.restPatrol.quietCheck.sound
  · exact h.sound
  all_goals exact h.sound

theorem State.TrafficSound.frame {s : State} (h : s.TrafficSound) (f : Frame) : ({ s with frame := f } : State).TrafficSound :=
  ⟨{ h.host with }, { h.port with }, { h.queue with }⟩

/-- Every command at its execution keeps the traffic sound. -/
theorem State.Ready.run {s : State} (h : s.Ready) (c : Command) (args : List Byte) : (s.run c args).2.TrafficSound := by
  have same {t : State} (e : SameTraffic s t) (hdebt : t.patrol.debt = s.patrol.debt) : t.TrafficSound :=
    (h.of_same e hdebt.le).sound
  cases c
  case identify | readStatus | resetCold => exact h.sound
  case readSetting => change (s.runReadSetting _).2.TrafficSound; unfold State.runReadSetting; split <;> exact h.sound
  case readSlot => change (s.runReadSlot _).2.TrafficSound; unfold State.runReadSlot; split <;> exact h.sound
  case readHealth => change (s.runReadHealth _).2.TrafficSound; unfold State.runReadHealth; split <;> exact h.sound
  case readMigration => change (s.runReadMigration _).2.TrafficSound; unfold State.runReadMigration; split <;> exact h.sound
  case peekReport => change s.runPeekReport.2.TrafficSound; unfold State.runPeekReport; split <;> exact h.sound
  case writeSetting => exact h.runWriteSetting _ _
  case popReport =>
    change s.runPopReport.2.TrafficSound
    unfold State.runPopReport
    split
    · exact same ⟨rfl, rfl, rfl, rfl, rfl, rfl, rfl, rfl, rfl, rfl⟩ rfl
    · exact h.sound
  case mapPreset => exact h.runMapPreset _
  case unmapSlot =>
    change (s.runUnmapSlot _).2.TrafficSound
    unfold State.runUnmapSlot
    split
    · exact h.sound
    split
    · exact h.sound
    split
    · exact same ⟨rfl, rfl, rfl, rfl, rfl, rfl, rfl, rfl, rfl, rfl⟩ rfl
    · exact h.sound
  case migrate => exact h.runMigrate _
  case cancel => exact h.runCancel _
  case clearHealth => exact same ⟨rfl, rfl, rfl, rfl, rfl, rfl, rfl, rfl, rfl, rfl⟩ rfl
  case startSweep => exact h.runStartSweep
  case adopt =>
    change s.runAdopt.2.TrafficSound
    unfold State.runAdopt
    split
    · exact h.enterNormal.sound
    · exact h.sound
  case quiesce => exact h.runQuiesce
  case resume =>
    change s.runResume.2.TrafficSound
    unfold State.runResume
    split
    · exact h.enterNormal.sound
    · exact h.sound

theorem State.Ready.afterExecution {s : State} (h : s.Ready) (code : Byte) (args : List Byte) :
    (afterExecution code args (s.runByte code args)).TrafficSound := by
  unfold Machine.afterExecution State.runByte
  split
  · exact (h.run _ _).frame _
  · exact h.sound.frame _

theorem State.Ready.serve {s : State} (h : s.Ready) (code : Byte) (args : List Byte) {ran : Reply × State}
    (hran : ran.2.TrafficSound) : (s.serve code args ran).TrafficSound := by
  unfold State.serve
  split
  · exact hran.frame _
  · exact h.sound

theorem State.Ready.clockEdge {s : State} (h : s.Ready) (msi : Bool) : (s.clockEdge msi).TrafficSound := by
  unfold State.clockEdge
  dsimp only
  split
  · split
    · exact h.sound
    all_goals exact h.sound.frame _
  · split
    · exact h.sound
    · unfold State.commandByte
      split
      · exact h.afterExecution _ _
      · exact h.sound.frame _
    · unfold State.argumentByte
      dsimp only
      split
      · exact h.sound.frame _
      · exact h.afterExecution _ _
    all_goals exact h.sound.frame _

end Sys2Proof.Machine
end

section
/-! SUPPORT. The resets, the take and time, and the invariant of the traffic over every step (O12). -/

namespace Sys2Proof.Machine

/-! ### The lines and the resets -/

theorem State.Ready.hstbDeassert {s : State} (h : s.Ready) :
    (if s.host.state = .responding then ({ s with hstb := false, strobeHeld := false, host := HostPort.none } : State)
      else { s with hstb := false, strobeHeld := false }).Ready := by
  split
  · rename_i hresponding
    refine h.answered ?_ (by simp [hresponding]) nofun rfl ⟨rfl, rfl, rfl, rfl, rfl, rfl, rfl, rfl, rfl, rfl⟩ rfl
    exact ⟨rfl, rfl, nofun, nofun, nofun, nofun, nofun, nofun⟩
  · rename_i hnot
    exact
      { host :=
          { h.host with
            respondingUntilWithdrawn := fun hs => absurd hs hnot
            strobeHeldByCycle := nofun }
        queue := { h.queue with }
        award := h.award
        closed := h.closed
        accessUnderGrant := h.accessUnderGrant
        freeNotAbandoned := h.freeNotAbandoned
        accessingMeansHost := h.accessingMeansHost
        uninitIdle := h.uninitIdle
        copyModes := h.copyModes
        gapBeforeHostWrite := h.gapBeforeHostWrite
        restsOnFree := h.restsOnFree }

/-- A line asserted that the controller does not take for a strobe, or that is asserted already. -/
theorem State.Ready.host_lines {s t : State} (h : s.Ready) (hhost : t.HostSound)
    (e : SameTraffic s { t with hstb := s.hstb, strobeHeld := s.strobeHeld, hreset := s.hreset })
    (hdebt : t.patrol.debt = s.patrol.debt) : t.Ready := by
  have same := h.of_same e hdebt.le
  exact
    { host := hhost
      queue := { same.queue with }
      award := same.award
      closed := same.closed
      accessUnderGrant := same.accessUnderGrant
      freeNotAbandoned := same.freeNotAbandoned
      accessingMeansHost := same.accessingMeansHost
      uninitIdle := same.uninitIdle
      copyModes := same.copyModes
      gapBeforeHostWrite := same.gapBeforeHostWrite
      restsOnFree := same.restsOnFree }

theorem State.Ready.hresetDeassert {s : State} (h : s.Ready) :
    (if s.host.state = .abandoned then ({ s with hreset := false, host := HostPort.none } : State)
      else { s with hreset := false }).Ready := by
  split
  · rename_i habandoned
    have hheld : s.strobeHeld = false := by
      by_contra hs
      have := (h.host.strobeHeldByCycle (by simpa using hs)).2
      simp [habandoned, HostState.holdsCycle] at this
    refine h.answered ?_ (by simp [habandoned]) nofun rfl ⟨rfl, rfl, rfl, rfl, rfl, rfl, rfl, rfl, rfl, rfl⟩ rfl
    exact ⟨rfl, rfl, nofun, nofun, nofun, fun hs => by simp [hheld] at hs, nofun, nofun⟩
  · rename_i hnot
    exact h.host_lines { h.host with abandonedUnderReset := fun hs => absurd hs hnot }
      ⟨rfl, rfl, rfl, rfl, rfl, rfl, rfl, rfl, rfl, rfl⟩ rfl

/-- The port after a warm reset: FREE, or held for an access that is abandoned (R40, R59). -/
theorem State.Undecided.portAfterWarmReset {s : State} (h : s.Undecided) :
    s.portAfterWarmReset.holder = (s.portAfterWarmReset.access.map Access.holder).getD .free ∧
      (s.portAfterWarmReset.holder = .free ↔ s.portAfterWarmReset.abandoned = false) ∧
      (s.portAfterWarmReset.gap = true → s.portAfterWarmReset.abandoned = false ∧
        s.portAfterWarmReset.access.any Access.followsInGrant = true) := by
  obtain ⟨hfree, hkept, hgone⟩ := s.portAfterWarmReset_cases
  by_cases hf : s.port.holder = .free
  · rw [hfree hf]
    exact ⟨h.accessUnderGrant, ⟨h.freeNotAbandoned, fun _ => hf⟩, h.gapBeforeHostWrite⟩
  · cases hbegun : s.accessBegun with
    | true =>
      rw [hkept hf hbegun]
      exact ⟨h.accessUnderGrant, ⟨fun hx => absurd hx hf, nofun⟩, nofun⟩
    | false =>
      rw [hgone hf hbegun]
      exact ⟨rfl, ⟨fun _ => rfl, fun _ => rfl⟩, nofun⟩

theorem State.dropMigrations_lines (s : State) :
    s.dropMigrations.award = s.award ∧ s.dropMigrations.decisionOpen = s.decisionOpen ∧
      s.dropMigrations.hreset = s.hreset := by
  unfold State.dropMigrations
  cases s.copy <;> exact ⟨rfl, rfl, rfl⟩

/-- What a warm reset leaves of the blocks, a FREE port or an abandoned one: no requester is present (R39, R91, R155, R171). -/
theorem State.Ready.warmBlocks {s : State} (h : s.Ready) (hreset : s.hreset = true) : s.warmBlocks.Ready := by
  obtain ⟨hunder, hfree, hgap⟩ := h.portAfterWarmReset
  have haward : s.warmBlocks.award = none := (State.dropMigrations_lines s).1.trans h.award
  have hclosed : s.warmBlocks.decisionOpen = false := (State.dropMigrations_lines s).2.1.trans h.closed
  have hline : s.warmBlocks.hreset = true := (State.dropMigrations_lines s).2.2.trans hreset
  have hcopy : s.warmBlocks.copy = none := State.dropMigrations_copy s
  have hport : s.warmBlocks.port = s.portAfterWarmReset := rfl
  have hlive : s.warmBlocks.liveAccess = none := by
    by_cases hf : s.portAfterWarmReset.holder = .free
    · rw [State.liveAccess_of_not_abandoned _ (hport ▸ hfree.mp hf), hport]
      cases hx : s.portAfterWarmReset.access with
      | none => rfl
      | some a =>
        rw [hx] at hunder
        exact absurd (hunder.symm.trans hf) a.holder_ne_free
    · refine State.liveAccess_of_abandoned _ ?_
      rw [hport]
      by_contra hx
      exact hf (hfree.mpr (by simpa using hx))
  have hmode : s.warmBlocks.mode ≠ .sweeping := by
    change s.mode.afterWarmReset ≠ .sweeping
    cases s.mode <;> simp [Mode.afterWarmReset]
  exact
    { host := ⟨rfl, rfl, nofun, nofun, nofun, nofun, fun _ => hline, nofun⟩
      queue :=
        { atMost8 := Nat.zero_le _
          oneEntryPerWord := List.nodup_nil
          emptyUninit := fun _ => rfl
          emptyQuiet := fun _ => rfl
          roomForRead := fun _ => Nat.zero_le _
          roomWhilePassed := nofun
          drainTakesHead := (State.drainWritesHead_iff _).mpr fun word stored hd => by simp [hlive] at hd }
      award := haward
      closed := hclosed
      accessUnderGrant := hunder
      freeNotAbandoned := hfree.mp
      accessingMeansHost := ⟨nofun, fun hp => by
        have := hfree.mpr hp.2
        rw [hport, this] at hp
        cases hp.1⟩
      uninitIdle := fun _ => ⟨rfl, hlive⟩
      copyModes := fun hc => by simp [hcopy] at hc
      gapBeforeHostWrite := hgap
      restsOnFree := fun _ => (State.decision_eq_none _).mpr ⟨rfl, rfl, hcopy, .inl rfl, hmode⟩ }

theorem State.Ready.warmReset {s : State} (h : s.Ready) (hreset : s.hreset = true) : s.warmReset.Ready := by
  have reported := (h.warmBlocks hreset).of_same
    (State.sameTraffic_append _ (.warmReset s.mode s.writeBacks.length (s.copy.map Copy.home))) (by simp)
  unfold State.warmReset
  dsimp only
  split
  · exact reported.of_same (State.sameTraffic_append _ _) (by simp)
  · exact reported

theorem State.coldReset_ready (s : State) : s.coldReset.Ready :=
  { host := ⟨rfl, rfl, nofun, nofun, nofun, nofun, nofun, nofun⟩
    queue := ⟨Nat.zero_le _, List.nodup_nil, fun _ => rfl, fun _ => rfl, nofun, nofun, rfl⟩
    award := rfl
    closed := rfl
    accessUnderGrant := rfl
    freeNotAbandoned := fun _ => rfl
    accessingMeansHost := ⟨nofun, fun hp => (by cases hp.1)⟩
    uninitIdle := fun _ => ⟨rfl, rfl⟩
    copyModes := nofun
    gapBeforeHostWrite := nofun
    restsOnFree := fun _ => rfl }

/-! ### The take and time -/

/-- The engine's state after a take, and what it leaves of the traffic (R137, R138). -/
theorem State.takeHead_traffic (s : State) : SameTraffic s { s.takeHead with copy := s.copy } := by
  constructor <;> rw [State.takeHead_changes]

theorem State.TrafficSound.execTake {s t : State} (h : s.TrafficSound) (ht : execTake s = .next t) : t.TrafficSound := by
  unfold Machine.execTake at ht
  cases ht
  split
  · rename_i hprecedes
    simp only [State.takePrecedesDecision, State.takeDue, Bool.and_eq_true, beq_iff_eq] at hprecedes
    obtain ⟨⟨haward, -⟩, ⟨-, hmode⟩, -⟩ := hprecedes
    have hfree := h.port.awardOnFree haward
    have e := s.takeHead_traffic
    refine State.Ending.release (State.Ending.mk (h.host.of_eq e.hstb e.strobeHeld e.hreset e.host) ?_ ?_ ?_ ?_ ?_ ?_ ?_ ?_)
    · rw [show s.takeHead.host = s.host from e.host]
      intro hacc
      have := (h.port.accessingMeansHost.mp hacc).1
      rw [hfree] at this
      cases this
    · rw [show s.takeHead.mode = s.mode from e.mode, hmode]
      nofun
    · exact fun _ => .inl (e.mode.trans hmode)
    · rw [show s.takeHead.writeBacks = s.writeBacks from e.writeBacks]
      exact h.queue.atMost8
    · rw [show s.takeHead.writeBacks = s.writeBacks from e.writeBacks]
      exact h.queue.oneEntryPerWord
    · rw [show s.takeHead.mode = s.mode from e.mode, hmode]
      nofun
    · rw [show s.takeHead.mode = s.mode from e.mode, hmode]
      nofun
    · rw [State.passed_of_eq (t := s.takeHead) e.host, show s.takeHead.writeBacks = s.writeBacks from e.writeBacks]
      intro hp
      refine (h.queue.roomWhilePassed hp).elim id fun hd => ?_
      rw [hfree] at hd
      cases hd.1
  · have ready := h.settled
    dsimp only
    split
    · rename_i hdue
      simp only [State.takeDue, Bool.and_eq_true, beq_iff_eq] at hdue
      have same := ready.toUndecided.of_same s.settled.takeHead_traffic
      exact State.Undecided.arbitrate
        { host := { same.host with }
          queue := { same.queue with }
          award := same.award
          closed := same.closed
          accessUnderGrant := same.accessUnderGrant
          freeNotAbandoned := same.freeNotAbandoned
          accessingMeansHost := same.accessingMeansHost
          uninitIdle := same.uninitIdle
          copyModes := fun _ => .inl (s.settled.takeHead_traffic.mode.trans hdue.1.2)
          gapBeforeHostWrite := same.gapBeforeHostWrite }
    · exact ready.sound

/-- An interval expiry decides where P becomes present (R76). -/
theorem State.Ready.expire {s : State} (h : s.Ready) : s.expire.TrafficSound := by
  unfold State.expire
  split
  · refine State.Undecided.arbitrate (h.toUndecided.of_same ⟨rfl, rfl, rfl, rfl, rfl, rfl, rfl, rfl, rfl, rfl⟩)
  · exact State.Ready.sound (h.of_same ⟨rfl, rfl, rfl, rfl, rfl, rfl, rfl, rfl, rfl, rfl⟩ (Nat.le_refl _))

/-! ### The completion of an abandoned access -/

theorem State.Ready.abandonedComplete {s : State} (h : s.Ready) (habandoned : s.port.abandoned = true) :
    s.completeAbandoned.endGrant.TrafficSound := by
  have ending : s.Ending :=
    { host := h.host
      notAccessing := fun hacc => by simp [(h.accessingMeansHost.mp hacc).2] at habandoned
      uninitIdle := fun hm => (h.uninitIdle hm).1
      copyModes := h.copyModes
      atMost8 := h.queue.atMost8
      oneEntryPerWord := h.queue.oneEntryPerWord
      emptyUninit := h.queue.emptyUninit
      emptyQuiet := h.queue.emptyQuiet
      roomWhilePassed := fun hp => (h.queue.roomWhilePassed hp).elim id fun hd => by simp [hd.2] at habandoned }
  refine State.Ending.endGrant (ending.of_eq ?_ ?_ ?_ ?_ ?_ ?_ ?_)
  all_goals
    unfold State.completeAbandoned
    cases s.port.access with
    | none => simp
    | some a => cases ha : a.stored <;> simp [ha]

/-! ### Every command -/

section

variable {s t : State} (hs : s.TrafficSound)
include hs

theorem State.TrafficSound.execHostStrobe (address : HostAddress) (isWrite : Bool) (enables : BitVec 4) (data : DataWord)
    (h : Machine.execHostStrobe address isWrite enables data s = .next t) : t.TrafficSound := by
  have ready := hs.settled
  cases h
  split
  · rename_i htakes
    simp only [State.takesStrobe, Bool.and_eq_true, beq_iff_eq] at htakes
    exact ready.strobe htakes.1.1.2 _ _ _ _
  · refine State.Ready.sound (ready.host_lines ?_ ⟨rfl, rfl, rfl, rfl, rfl, rfl, rfl, rfl, rfl, rfl⟩ rfl)
    exact { ready.host with strobeHeldByCycle := fun hheld => ⟨rfl, (ready.host.strobeHeldByCycle hheld).2⟩ }

theorem State.TrafficSound.execHstbDeassert (h : Machine.execHstbDeassert s = .next t) : t.TrafficSound := by
  have ready := hs.settled
  cases h
  exact ready.hstbDeassert.sound

theorem State.TrafficSound.execHresetAssert (h : Machine.execHresetAssert s = .next t) : t.TrafficSound := by
  have ready := hs.settled
  cases h
  have asserted : ({ s.settled with hreset := true } : State).Ready :=
    ready.host_lines { ready.host with abandonedUnderReset := fun _ => rfl }
      ⟨rfl, rfl, rfl, rfl, rfl, rfl, rfl, rfl, rfl, rfl⟩ rfl
  split
  · exact asserted.sound
  · exact (asserted.warmReset rfl).sound

theorem State.TrafficSound.execHresetDeassert (h : Machine.execHresetDeassert s = .next t) : t.TrafficSound := by
  have ready := hs.settled
  cases h
  exact ready.hresetDeassert.sound

theorem State.TrafficSound.execTimebaseTick (h : Machine.execTimebaseTick s = .next t) : t.TrafficSound := by
  have ready := hs.settled
  cases h
  split
  · exact ready.expire
  split
  · exact State.Ready.sound (ready.of_same ⟨rfl, rfl, rfl, rfl, rfl, rfl, rfl, rfl, rfl, rfl⟩ (Nat.le_refl _))
  · exact ready.sound

theorem State.TrafficSound.execHostReadComplete (changed : StoredWord)
    (h : Machine.execHostReadComplete changed s = .next t) : t.TrafficSound := by
  have ready := hs.settled
  cases h
  split
  · rename_i word _ hlive _
    exact ready.hostReadDecoded hlive (State.sameTraffic_readCells _ _ _) _ _
  · exact ready.sound

theorem State.TrafficSound.execInlineWriteBackComplete (h : Machine.execInlineWriteBackComplete s = .next t) : t.TrafficSound := by
  have ready := hs.settled
  cases h
  split
  · rename_i word stored hlive
    obtain ⟨written, hlive'⟩ := ready.written hlive word stored
    exact ((written.supersede hlive' nofun word).answering hlive' rfl).finishHost _ _
  · exact ready.sound

theorem State.TrafficSound.execPartialWriteReadComplete (changed : StoredWord)
    (h : Machine.execPartialWriteReadComplete changed s = .next t) : t.TrafficSound := by
  have ready := hs.settled
  cases h
  split
  · rename_i word _ hlive _
    split
    · exact ready.mergeDecoded hlive (State.sameTraffic_readCells _ _ _) _ _ _
    · exact ready.sound
  · exact ready.sound

theorem State.TrafficSound.execHostWriteComplete (h : Machine.execHostWriteComplete s = .next t) : t.TrafficSound := by
  have ready := hs.settled
  cases h
  split
  · rename_i word stored hlive
    obtain ⟨written, hlive'⟩ := ready.written hlive word stored
    have superseded := written.supersede hlive' nofun word
    dsimp only
    split
    · exact superseded.continues hlive' _ rfl (fun _ => rfl) nofun nofun
    · exact (superseded.answering hlive' rfl).finishHost _ _
  · exact ready.sound

theorem State.TrafficSound.execTargetWriteComplete (h : Machine.execTargetWriteComplete s = .next t) : t.TrafficSound := by
  have ready := hs.settled
  cases h
  split
  · rename_i word stored hlive
    obtain ⟨written, hlive'⟩ := ready.written hlive word stored
    exact (written.answering hlive' rfl).finishHost _ _
  · exact ready.sound

theorem State.TrafficSound.execDrainWriteComplete (h : Machine.execDrainWriteComplete s = .next t) : t.TrafficSound := by
  have ready := hs.settled
  cases h
  split
  · rename_i word stored hlive
    obtain ⟨written, hlive'⟩ := ready.written hlive word stored
    exact (written.drainEnding hlive').endGrant
  · exact ready.sound

theorem State.TrafficSound.execPatrolReadComplete (changed : StoredWord)
    (h : Machine.execPatrolReadComplete changed s = .next t) : t.TrafficSound := by
  have ready := hs.settled
  cases h
  split
  · rename_i word hlive
    exact ready.patrolReadDecoded hlive (State.sameTraffic_readCells _ _ _) _
  · exact ready.sound

theorem State.TrafficSound.execPatrolWriteComplete (h : Machine.execPatrolWriteComplete s = .next t) : t.TrafficSound := by
  have ready := hs.settled
  cases h
  split
  · rename_i word stored hlive
    obtain ⟨written, hlive'⟩ := ready.written hlive word stored
    have e := (State.supersede (s.settled.writeCell word stored) word).sameTraffic_advancePatrol
    exact (((written.supersede hlive' nofun word).of_same e).ending ((State.liveAccess_of_eq e.port).trans hlive')
      nofun nofun).endGrant
  · exact ready.sound

theorem State.TrafficSound.execCopyReadComplete (changed : StoredWord)
    (h : Machine.execCopyReadComplete changed s = .next t) : t.TrafficSound := by
  have ready := hs.settled
  cases h
  split
  · rename_i word _ hlive _
    exact ready.copyReadDecoded hlive (State.sameTraffic_readCells _ _ _) _ _
  · exact ready.sound

theorem State.TrafficSound.execCopyWriteComplete (h : Machine.execCopyWriteComplete s = .next t) : t.TrafficSound := by
  have ready := hs.settled
  cases h
  split
  · rename_i word stored source c hlive hc
    obtain ⟨written, hlive'⟩ := ready.written hlive word stored
    exact ((written.ending hlive' nofun nofun).copyStepEnds hc source).endGrant
  · exact ready.sound

theorem State.TrafficSound.execSweepWriteComplete (h : Machine.execSweepWriteComplete s = .next t) : t.TrafficSound := by
  have ready := hs.settled
  cases h
  split
  · rename_i word stored hlive
    obtain ⟨written, hlive'⟩ := ready.written hlive word stored
    exact ((written.supersede hlive' nofun word).ending hlive' nofun nofun).advanceSweep.endGrant
  · exact ready.sound

theorem State.TrafficSound.execFrameEnd (h : Machine.execFrameEnd s = .next t) : t.TrafficSound := by
  have ready := hs.settled
  cases h
  split
  · unfold State.raiseMcs
    dsimp only
    split
    · exact (State.coldReset_ready _).sound
    · exact State.Ready.sound (ready.of_same ⟨rfl, rfl, rfl, rfl, rfl, rfl, rfl, rfl, rfl, rfl⟩ (Nat.le_refl _))
  · exact ready.sound

theorem State.TrafficSound.execResetCold (h : Machine.execResetCold s = .next t) : t.TrafficSound := by
  have ready := hs.settled
  cases h
  split
  · rename_i hdue
    simp only [Bool.and_eq_true] at hdue
    unfold State.raiseMcs
    dsimp only
    rw [if_pos hdue.2]
    exact (State.coldReset_ready _).sound
  · exact ready.sound

theorem State.TrafficSound.exec {c : Instr} (h : Machine.exec c s = .next t) :
    t.TrafficSound := by
  have ready := hs.settled
  have granted (b : Bool) : (if b then s.settled else s).TrafficSound := by
    cases b
    · exact hs
    · exact ready.sound
  have served (code : Byte) (args : List Byte) {ran : Reply × State} (hran : ran.2.TrafficSound) :=
    ready.serve code args hran
  cases c
  case hostStrobe => exact hs.execHostStrobe _ _ _ _ h
  case hstbDeassert => exact hs.execHstbDeassert h
  case hresetAssert => exact hs.execHresetAssert h
  case hresetDeassert => exact hs.execHresetDeassert h
  case poresetAssert => cases h; exact (State.coldReset_ready _).sound
  case poresetDeassert =>
    cases h
    exact State.Ready.sound (ready.of_same ⟨rfl, rfl, rfl, rfl, rfl, rfl, rfl, rfl, rfl, rfl⟩ (Nat.le_refl _))
  case timebaseTick => exact hs.execTimebaseTick h
  case intervalExpiry =>
    cases h
    split
    · exact ready.expire
    · exact ready.sound
  case hostGrant | drainGrant | patrolGrant | copyGrant | sweepGrant => cases h; exact granted _
  case hostReadComplete => exact hs.execHostReadComplete _ h
  case inlineWriteBackComplete => exact hs.execInlineWriteBackComplete h
  case partialWriteReadComplete => exact hs.execPartialWriteReadComplete _ h
  case hostWriteComplete => exact hs.execHostWriteComplete h
  case targetWriteComplete => exact hs.execTargetWriteComplete h
  case abandonedAccessComplete =>
    cases h
    split
    · exact ready.abandonedComplete ‹_›
    · exact ready.sound
  case drainWriteComplete => exact hs.execDrainWriteComplete h
  case patrolReadComplete => exact hs.execPatrolReadComplete _ h
  case patrolWriteComplete => exact hs.execPatrolWriteComplete h
  case take => exact hs.execTake h
  case copyReadComplete => exact hs.execCopyReadComplete _ h
  case copyWriteComplete => exact hs.execCopyWriteComplete h
  case sweepWriteComplete => exact hs.execSweepWriteComplete h
  case frameBegin =>
    cases h
    split <;> exact State.Ready.sound (ready.of_same ⟨rfl, rfl, rfl, rfl, rfl, rfl, rfl, rfl, rfl, rfl⟩ (Nat.le_refl _))
  case frameEnd => exact hs.execFrameEnd h
  case resetCold => exact hs.execResetCold h
  case msckRisingEdge =>
    cases h
    split
    · exact ready.clockEdge _
    · exact ready.sound
  case unknownCommand =>
    cases h
    split
    · exact served _ _ ready.sound
    · exact ready.sound
  case identify => cases h; exact served _ _ (ready.run .identify [])
  case readStatus => cases h; exact served _ _ (ready.run .readStatus [])
  case readSetting x => cases h; exact served _ _ (ready.run .readSetting [x])
  case readSlot x => cases h; exact served _ _ (ready.run .readSlot [x])
  case readHealth x => cases h; exact served _ _ (ready.run .readHealth [x])
  case readMigration x => cases h; exact served _ _ (ready.run .readMigration [x])
  case peekReport => cases h; exact served _ _ (ready.run .peekReport [])
  case popReport => cases h; exact served _ _ (ready.run .popReport [])
  case mapPreset => cases h; exact served _ _ (ready.runMapPreset _)
  case unmapSlot x => cases h; exact served _ _ (ready.run .unmapSlot [x])
  case migrate => cases h; exact served _ _ (ready.runMigrate _)
  case cancel => cases h; exact served _ _ (ready.runCancel _)
  case clearHealth => cases h; exact served _ _ (ready.run .clearHealth [])
  case startSweep => cases h; exact served _ _ ready.runStartSweep
  case adopt => cases h; exact served _ _ (ready.run .adopt [])
  case quiesce => cases h; exact served _ _ ready.runQuiesce
  case resume => cases h; exact served _ _ (ready.run .resume [])
  all_goals
    cases h
    exact served _ _ (ready.runWriteSetting _ _)

end

/-- Settles O12: every event meets a state whose grant has been made, and leaves a held port, a FREE one with the decision that
its requesters call for, or a FREE one without a requester. -/
theorem trafficKept : Obligations.TrafficKept := by
  intro s t hs h
  unfold step at h
  split at h
  · cases h
    exact ⟨{ hs.host with }, { hs.port with gapBeforeHostWrite := nofun }, { hs.queue with }⟩
  · have waiting (rest : List Instr) : ({ s with pending := rest } : State).TrafficSound :=
      ⟨{ hs.host with }, { hs.port with }, { hs.queue with }⟩
    exact (waiting _).exec h

end Sys2Proof.Machine
end

section
/-! SUPPORT. The sweep (O9): its cursor through every change of the state, and its steps in SWEEPING alone. -/

namespace Sys2Proof.Machine

/-! ### The cursor -/

/-- The sweep cursor in the array, on a line that is left while SWEEPING. -/
structure State.SweepCursorSound (s : State) : Prop where
  lineAtMostAll : s.sweepLine ≤ s.memoryLines
  indexInLine : s.sweepIndex ≤ 7
  lineLeftWhileSweeping : s.mode = .sweeping → s.sweepLine < s.memoryLines

theorem State.memoryLines_pos (s : State) : 0 < s.memoryLines := Nat.two_pow_pos _

theorem State.SweepCursorSound.of_eq {s t : State} (h : s.SweepCursorSound) (hline : t.sweepLine = s.sweepLine)
    (hindex : t.sweepIndex = s.sweepIndex) (hmode : t.mode = s.mode)
    (hset : t.settings.memoryLinesLog2 = s.settings.memoryLinesLog2) : t.SweepCursorSound := by
  have hall : t.memoryLines = s.memoryLines := by rw [State.memoryLines, hset]; rfl
  refine ⟨?_, ?_, ?_⟩
  · rw [hline, hall]; exact h.lineAtMostAll
  · rw [hindex]; exact h.indexInLine
  · rw [hline, hall, hmode]; exact h.lineLeftWhileSweeping

/-- At the array's first word the cursor is sound in every mode. -/
theorem State.SweepCursorSound.of_start {t : State} (hline : t.sweepLine = 0) (hindex : t.sweepIndex = 0) :
    t.SweepCursorSound :=
  ⟨by rw [hline]; exact Nat.zero_le _, by rw [hindex]; exact Nat.zero_le _, fun _ => by rw [hline]; exact t.memoryLines_pos⟩

theorem SettingWrite.keeps_sweepCursor {s t : State} {v : Nat} (hw : SettingWrite s v t) (h : s.SweepCursorSound) :
    t.SweepCursorSound := by
  cases hw
  case memoryLines => exact .of_start rfl rfl
  all_goals exact h.of_eq rfl rfl rfl rfl

/-- Every elementary change keeps the cursor, where a sweep step in progress means SWEEPING. -/
theorem Effect.keeps_sweepCursor {c : Instr} {p u v : State} (e : Effect c p u v)
    (hp : sweeps p.port → p.mode = .sweeping) (h : u.SweepCursorSound) : v.SweepCursorSound := by
  cases e
  case setting identifier n _ => exact (u.putSetting_write identifier n).keeps_sweepCursor h
  case mode m _ _ hbegun _ =>
    exact ⟨h.lineAtMostAll, h.indexInLine, fun hm => (hbegun hm).symm ▸ u.memoryLines_pos⟩
  case sweepBegin => exact .of_start rfl rfl
  case sweepWord index hindex => exact ⟨h.lineAtMostAll, hindex, h.lineLeftWhileSweeping⟩
  case sweepLine hlive hm hne =>
    have hlt := h.lineLeftWhileSweeping (hm.trans (hp hlive))
    exact ⟨hlt, Nat.zero_le _, fun _ => Nat.lt_of_le_of_ne hlt hne⟩
  case sweepEnd heq => exact ⟨heq.le, Nat.zero_le _, nofun⟩
  case cold => exact .of_start rfl rfl
  case report => exact h.of_eq (by simp) (by simp) (by simp) (by simp)
  all_goals exact h.of_eq rfl rfl rfl rfl

/-! ### The steps -/

theorem State.sweepInProgress_iff (s : State) : s.sweepInProgress = true ↔ sweeps s.port := by
  unfold State.sweepInProgress sweeps State.liveAccess
  cases s.port.abandoned with
  | true => simp
  | false =>
    cases hx : s.port.access with
    | none => simp
    | some a => cases a <;> simp

/-- A grant begins a sweep write only where it is the sweep's (R52). -/
theorem State.sweeps_grant {s : State} {a : Award} (h : sweeps (s.grant a).port) :
    a.grantee = .step .sweep ∨ sweeps s.port := by
  obtain ⟨grantee, g⟩ := a
  have hkept : (s.grantStep g).port = s.port := by rw [State.grantStep_eq]
  cases grantee with
  | host =>
    unfold State.grant State.grantHost at h
    dsimp only at h
    split at h
    · exact .inr h
    split at h
    · exact .inr h
    · rename_i r _ _ _ hfirst
      obtain ⟨-, word, w, hx⟩ := h
      cases Option.some.inj hx
      cases hk : r.kind <;> simp [hk, CycleKind.firstAccess] at hfirst
  | step which =>
    cases which with
    | drain =>
      unfold State.grant State.grantDrain at h
      dsimp only at h
      split at h
      · exact .inr (hkept ▸ h)
      · obtain ⟨-, word, w, hx⟩ := h
        cases hx
    | patrol =>
      obtain ⟨-, word, w, hx⟩ := h
      cases hx
    | copy =>
      unfold State.grant State.grantCopy at h
      dsimp only at h
      split at h
      · exact .inr (hkept ▸ h)
      · obtain ⟨-, word, w, hx⟩ := h
        cases hx
    | sweep => exact .inl rfl

/-- The state that an event meets has a sweep step in progress in SWEEPING alone. -/
theorem State.SweepSound.mode_of_settled {s : State} (h : s.SweepSound) (hs : sweeps s.settled.port) :
    s.settled.mode = .sweeping := by
  rw [State.settled_mode]
  cases haward : s.award with
  | none =>
    rw [s.settled_of_award_none haward] at hs
    exact h.stepOnlyWhileSweeping (s.sweepInProgress_iff.mpr hs)
  | some a =>
    rw [State.settled, haward] at hs
    rcases State.sweeps_grant hs with hgrantee | hport
    · exact h.grantOnlyWhileSweeping (by simp [State.awardedTo, haward, hgrantee])
    · exact h.stepOnlyWhileSweeping (s.sweepInProgress_iff.mpr hport)

/-- A step leaves the sweep's access in progress only where the command met it. -/
theorem Effect.keeps_noSweep {c : Instr} {p u v : State} (e : Effect c p u v) (h : sweeps u.port → sweeps p.port) :
    sweeps v.port → sweeps p.port := by
  cases e
  case port q hq => exact fun hs => (hq hs).elim h fun heq => heq ▸ hs
  case cold => exact fun ⟨_, _, _, hx⟩ => by cases hx
  case report => rw [State.append_port]; exact h
  case setting => rw [State.putSetting_changes]; exact h
  all_goals exact h

/-- The commands that can leave SWEEPING: a sweep write's completion and the resets. -/
def leavesSweeping (c : Instr) : Prop := c = .sweepWriteComplete ∨ c = .hresetAssert ∨ resetsCold c = true

theorem Effect.keeps_sweeping {c : Instr} {p u v : State} (e : Effect c p u v) (hc : ¬ leavesSweeping c)
    (h : u.mode = .sweeping) : v.mode = .sweeping := by
  cases e
  case mode m _ hleft _ _ => exact absurd (.inr (.inl (hleft h))) hc
  case sweepEnd h' _ _ => exact absurd (.inl h') hc
  case cold h' _ => exact absurd (.inr (.inr h')) hc
  case report => simpa using h
  case setting => rw [State.putSetting_changes]; exact h
  all_goals exact h

theorem State.not_sweeps_endGrant (s : State) : ¬ sweeps s.endGrant.port := fun ⟨_, _, _, hx⟩ => by cases hx

theorem State.not_sweeps_coldReset (s : State) : ¬ sweeps s.coldReset.port := fun ⟨_, _, _, hx⟩ => by cases hx

/-- A warm reset leaves the port FREE or its access abandoned (R40, R59). -/
theorem State.not_sweeps_warmReset {s : State} (h : s.port.holder = (s.port.access.map Access.holder).getD .free) :
    ¬ sweeps s.warmReset.port := by
  have hport : s.warmReset.port = s.portAfterWarmReset := by
    unfold State.warmReset
    dsimp only
    split <;> simp [State.warmBlocks]
  obtain ⟨hfree, hkept, hgone⟩ := s.portAfterWarmReset_cases
  rw [hport]
  rintro ⟨habandoned, word, w, hx⟩
  by_cases hf : s.port.holder = .free
  · rw [hfree hf] at hx
    rw [hx] at h
    cases hf.symm.trans h
  · cases hbegun : s.accessBegun with
    | true =>
      rw [hkept hf hbegun] at habandoned
      cases habandoned
    | false =>
      rw [hgone hf hbegun] at hx
      cases hx

/-- A command that can leave SWEEPING either leaves no sweep step in progress or keeps the mode. -/
theorem State.Undecided.sweep_of_leaving {s t : State} {c : Instr} (h : s.settled.Undecided) (hc : leavesSweeping c)
    (ht : exec c s = .next t) (hs : sweeps t.port) : t.mode = s.settled.mode := by
  rcases hc with rfl | rfl | hcold
  · cases ht
    split
    · rename_i hlive
      rw [hlive] at hs
      exact absurd hs (State.not_sweeps_endGrant _)
    · rfl
  · cases ht
    split
    · rfl
    · rename_i hline
      rw [if_neg hline] at hs
      exact absurd hs (State.not_sweeps_warmReset h.accessUnderGrant)
  · cases c <;> simp only [resetsCold, Bool.false_eq_true] at hcold
    case poresetAssert =>
      cases ht
      exact absurd hs (State.not_sweeps_coldReset _)
    case resetCold =>
      cases ht
      split
      · rename_i hdue
        rw [if_pos hdue, State.raiseMcs] at hs
        dsimp only at hs
        rw [if_pos (Bool.and_eq_true_iff.mp hdue).2] at hs
        exact absurd hs (State.not_sweeps_coldReset _)
      · rfl
    case frameEnd =>
      cases ht
      split
      · rename_i hmcs
        rw [if_pos hmcs] at hs
        unfold State.raiseMcs at hs ⊢
        dsimp only at hs ⊢
        split
        · rename_i hdue
          rw [if_pos hdue] at hs
          exact absurd hs (State.not_sweeps_coldReset _)
        · rfl
      · rfl

/-- An access in progress is met as it is: no decision is outstanding on a held port (R48). -/
theorem State.TrafficSound.sweeps_settled {s : State} (h : s.TrafficSound) (hs : sweeps s.port) : sweeps s.settled.port := by
  cases haward : s.award with
  | none => rwa [s.settled_of_award_none haward]
  | some a =>
    obtain ⟨-, word, w, hx⟩ := hs
    have hholder := h.port.accessUnderGrant
    rw [hx] at hholder
    cases (h.port.awardOnFree (by simp [haward])).symm.trans hholder

/-- Settles O9: the cursor by its changes one at a time, the sweep's steps and its decision by the mode that they began in. -/
theorem sweepBoundsKept : Obligations.SweepBoundsKept := by
  intro s t hsweep htraffic h
  have after := trafficKept s t htraffic h
  have hgrant : t.awardedTo (.step .sweep) = true → t.mode = .sweeping := by
    intro hawarded
    cases haward : t.award with
    | none => simp [State.awardedTo, haward] at hawarded
    | some a =>
      obtain ⟨grantee, g⟩ := a
      cases (show grantee = .step .sweep by simpa [State.awardedTo, haward] using hawarded)
      have hdec := (after.port.decidedWhileFree (after.port.awardOnFree (by simp [haward]))).symm.trans haward
      simpa [State.stepPresent] using State.stepPresent_of_decision hdec
  have cursor : s.SweepCursorSound := ⟨hsweep.lineAtMostAll, hsweep.indexInLine, hsweep.lineLeftWhileSweeping⟩
  suffices hboth : t.SweepCursorSound ∧ (sweeps t.port → t.mode = .sweeping) from
    ⟨hboth.1.lineAtMostAll, hboth.1.indexInLine, hboth.1.lineLeftWhileSweeping,
      fun hs => hboth.2 (t.sweepInProgress_iff.mp hs), hgrant⟩
  unfold step at h
  split at h
  · cases h
    exact ⟨cursor.of_eq rfl rfl rfl rfl, fun hs => hsweep.stepOnlyWhileSweeping (s.sweepInProgress_iff.mpr hs)⟩
  · rename_i c rest hpending
    have traffic : ({ s with pending := rest } : State).TrafficSound :=
      ⟨{ htraffic.host with }, { htraffic.port with }, { htraffic.queue with }⟩
    have sweep : ({ s with pending := rest } : State).SweepSound := { hsweep with }
    have effects := exec_effects h
    have hmode := sweep.mode_of_settled
    refine ⟨effects.keeps (fun _ _ e => e.keeps_sweepCursor hmode) (cursor.of_eq rfl rfl rfl rfl), fun hs => ?_⟩
    have hstart := hmode (effects.keeps (P := fun u => sweeps u.port → sweeps (State.settled _).port)
      (fun _ _ e => e.keeps_noSweep) traffic.sweeps_settled hs)
    by_cases hc : leavesSweeping c
    · exact (State.Undecided.sweep_of_leaving traffic.settled.toUndecided hc h hs).trans hstart
    · exact effects.keeps (P := fun u => u.mode = .sweeping) (fun _ _ e => e.keeps_sweeping hc)
        ((State.settled_mode _).symm.trans hstart)

end Sys2Proof.Machine
end

section
/-! SUPPORT. The step and its command (O1, O2), reset (O13), the class table (O14), the array's words (O17) and the Report Queue's
tail (O18). -/

namespace Sys2Proof.Machine

/-! ### The step -/

/-- Settles O1. -/
theorem stepRunsFrontCommand : Obligations.StepRunsFrontCommand := by
  intro s
  constructor
  · intro c rest h
    simp only [step, h]
  · intro h
    unfold step
    split
    · rfl
    · simp_all

/-- A grant leaves no decision outstanding (R52). -/
theorem State.grant_award (s : State) (a : Award) : (s.grant a).award = none := by
  have hstep (g : GrantCase) : (s.grantStep g).award = none := by rw [State.grantStep_eq]
  unfold State.grant
  split
  · unfold State.grantHost
    dsimp only
    split
    · rfl
    · split <;> rfl
  · unfold State.grantDrain
    split <;> exact hstep a.byCase
  · unfold State.grantPatrol State.beginAccess
    dsimp only
    rw [State.checkPatrolLine_changes]
    exact hstep a.byCase
  · unfold State.grantCopy
    split <;> exact hstep a.byCase
  · exact hstep a.byCase

@[simp] theorem State.settled_award (s : State) : s.settled.award = none := by
  cases h : s.award with
  | none => rw [s.settled_of_award_none h, h]
  | some a => rw [State.settled, h]; exact s.grant_award a

@[simp] theorem State.settled_settled (s : State) : s.settled.settled = s.settled :=
  s.settled.settled_of_award_none s.settled_award

/-- Settles O2. -/
theorem decisionsAreCarriedOut : Obligations.DecisionsAreCarriedOut := by
  intro s
  refine ⟨fun c hgrant htake => ?_, fun a ha => ?_, s.settled_award⟩
  · cases c
    case hostGrant | drainGrant | patrolGrant | copyGrant | sweepGrant => simp at hgrant
    case take =>
      have hopen : s.takePrecedesDecision = false := by
        rcases htake rfl with h | h | h | h <;> simp [State.takePrecedesDecision, State.takeDue, h]
      have hopen' : s.settled.takePrecedesDecision = false := by simp [State.takePrecedesDecision]
      change execTake s = execTake s.settled
      simp [execTake, hopen, hopen']
    all_goals
      simp only [exec, execHostStrobe, execHstbDeassert, execHresetAssert, execHresetDeassert, execPoresetAssert,
        execPoresetDeassert, execTimebaseTick, execIntervalExpiry, execHostReadComplete, execInlineWriteBackComplete,
        execPartialWriteReadComplete, execHostWriteComplete, execTargetWriteComplete, execAbandonedAccessComplete,
        execDrainWriteComplete, execPatrolReadComplete, execPatrolWriteComplete, execCopyReadComplete,
        execCopyWriteComplete, execSweepWriteComplete, execFrameBegin, execFrameEnd, execUnknownCommand, execIdentify,
        execReadStatus, execReadSetting, execWriteSetting, execWriteMemoryLinesLog2, execWriteSpareCount,
        execWritePatrolInterval, execWriteDebtLimit, execWriteMigrateThreshold, execWriteMigrateOnUncorrectable,
        execWriteAgePasses, execWriteAlertMask, execReadSlot, execReadHealth, execReadMigration, execPeekReport,
        execPopReport, execMapPreset, execUnmapSlot, execMigrate, execCancel, execClearHealth, execStartSweep, execAdopt,
        execQuiesce, execResume, execResetCold, execMsckRisingEdge, State.settled_settled]
  · obtain ⟨grantee, g⟩ := a
    have hawarded (r : Requester) : s.awardedTo r = (grantee == r) := by simp [State.awardedTo, ha]
    cases grantee with
    | host => simp [exec, execHostGrant, hawarded]
    | step which => cases which <;>
        simp [exec, execDrainGrant, execPatrolGrant, execCopyGrant, execSweepGrant, hawarded]

/-! ### Reset -/

theorem State.reset_sweepSound : State.reset.SweepSound := ⟨by decide, by decide, by decide, by decide, by decide⟩

theorem State.reset_trafficSound : State.reset.TrafficSound := (State.coldReset_ready State.reset).sound

/-- Settles O13: the reset state meets each invariant, block by block. -/
theorem resetIsSound : Obligations.ResetIsSound :=
  ⟨{ reports := State.reset_reportsSound
     array := State.reset_cellsWf
     patrol := State.reset_patrolSound
     sweep := State.reset_sweepSound
     health := State.reset_healthSound
     map := State.reset_mapSound
     traffic := State.reset_trafficSound }, rfl⟩

/-! ### The class table -/

/-- The class table (R5), with the columns and the MULTI syndromes written out, value by value. -/
theorem classOfSyndrome_table : ∀ n < 128, classOfSyndrome (BitVec.ofNat 7 n) =
    (if BitVec.ofNat 7 n = 0#7 then .clean
    else if BitVec.ofNat 7 n ∈ [1#7, 2#7, 4#7, 8#7, 16#7, 32#7, 64#7] then .singleCheck
    else if BitVec.ofNat 7 n ∈ dataColumns then .singleData
    else if BitVec.ofNat 7 n = 127#7 then .poisoned
    else if BitVec.ofNat 7 n ∈
      ([100, 104, 112, 31, 47, 55, 59, 61, 62, 79, 87, 91, 93, 94, 103, 107, 109, 110, 115, 117, 118, 121, 122, 124] :
        List CheckBits) then .multi
    else .double) := by decide

theorem generatedCheck_twoPow : ∀ i < 32, generatedCheck (BitVec.twoPow 32 i) = dataColumns.getD i 0#7 := by decide

theorem namedDataBit_dataColumn {i : Nat} (hi : i < 32) : namedDataBit (dataColumns.getD i 0#7) = some i := by
  have := namedDataBit_positionColumn i (by omega)
  rwa [positionColumn, if_pos hi, if_pos hi] at this

theorem namedDataBit_of_not_column {c : CheckBits} (h : c ∉ dataColumns) : namedDataBit c = none := by
  rw [namedDataBit, List.findIdx?_eq_none_iff]
  intro column hmem
  simp only [beq_eq_false_iff_ne]
  rintro rfl
  exact h hmem

theorem decode_encode (data : DataWord) :
    decode (encode data) = { cls := .clean, data := data, flag := false, repaired := encode data } := by
  have hclean : classOfSyndrome 0#7 = .clean := by decide
  have hnone : namedDataBit 0#7 = none := namedDataBit_eq_none_of_weight_ne (by decide)
  have hdata : decodedData (encode data) = data := by
    rw [decodedData, syndrome_encode, hnone]
    exact storedData_storeWord _ _
  rw [decode, hdata, syndrome_encode, hclean]

/-- Settles O14: the class table value by value, and the rest by the check code's linearity. -/
theorem encodedWordsReadClean : Obligations.EncodedWordsReadClean := by
  refine ⟨fun data => ⟨syndrome_encode data, decode_encode data⟩, generatedCheck_twoPow, generatedCheck_xor, fun w => ?_,
    fun w check data => ⟨fun i hi => ?_, storedData_storeWord _ _, storedCheck_storeWord _ _, rfl⟩, fun c => ?_, fun c => ?_⟩
  · refine ⟨rfl, ?_, ?_, fun i hi hc => ?_, fun hc => ?_, rfl⟩
    · have htable := classOfSyndrome_table (syndrome w).toNat (syndrome w).isLt
      rwa [BitVec.ofNat_toNat, BitVec.setWidth_eq] at htable
    · simp only [decode]
      cases classOfSyndrome (syndrome w) <;> simp
    · have hnamed : namedDataBit (syndrome w) = some i := (congrArg namedDataBit hc).trans (namedDataBit_dataColumn hi)
      exact ⟨hnamed, by simp only [decode, decodedData, hnamed]⟩
    · have hnone : namedDataBit (syndrome w) = none := namedDataBit_of_not_column hc
      exact ⟨hnone, by simp only [decode, decodedData, hnone]⟩
  · conv_lhs => rw [← storeWord_storedCheck_storedData w]
    exact getLsbD_storeWord _ _ i
  · cases c <;> rfl
  · cases c <;> simp [ErrorClass.corrected]

/-! ### The array's words and the memory port's lines -/

/-- A completed read, said once: the word found stands in the array from then on (R43, R142). -/
theorem State.readCells_eq (s : State) (a : Nat) (w : StoredWord) :
    (s.readCells a w).2 = { s with
      cells := setCell s.cells a (s.readCells a w).1
      freeIndex := if getCell s.cells a = none then s.freeIndex + 1 else s.freeIndex } := by
  unfold State.readCells
  cases getCell s.cells a <;> rfl

/-- Settles O17. -/
theorem arrayReadsWhatWasWritten : Obligations.ArrayReadsWhatWasWritten := by
  constructor
  · intro s a b w
    refine ⟨getCell_setCell s.cells a b w, rfl, s.readCells_eq a w, fun v hv => ?_⟩
    simp only [State.readCells, hv]
  · intro s reads writes
    unfold State.memoryLinesDriven State.accessInProgress
    cases s.port.gap with
    | true => rfl
    | false =>
      cases s.port.access with
      | none => rfl
      | some x => cases x <;> rfl

/-! ### The Report Queue's tail -/

theorem tailIsLost_iff (records : List ReportRecord) :
    tailIsLost records = true ↔
      ∃ front q p n, records = front ++ [{ sequence := q, pass := p, report := .lost n }] := by
  constructor
  · intro h
    rcases List.eq_nil_or_concat' records with rfl | ⟨front, last, rfl⟩
    · cases h
    · rw [tailIsLost_concat] at h
      obtain ⟨q, p, report⟩ := last
      cases report
      case lost n => exact ⟨front, q, p, n, by simp⟩
      all_goals cases h
  · rintro ⟨front, q, p, n, rfl⟩
    rw [tailIsLost_concat]
    rfl

theorem countAtTail_concat (front : List ReportRecord) (r : ReportRecord) :
    countAtTail (front ++ [r]) = front ++ [bumpLost r] := by
  simp [countAtTail]

/-- Settles O18: by the queue's length, and by whether its tail is a LOST record. -/
theorem reportIsKeptCountedOrDropped : Obligations.ReportIsKeptCountedOrDropped := by
  intro s r pushed
  refine ⟨fun h => ?_, fun h hnot => ?_, fun front q p n htail h => ?_, fun mask records => ?_, rfl⟩
  · rw [State.append, if_pos (by omega)]
    rfl
  · have htail : tailIsLost s.reports = false := by
      rw [Bool.eq_false_iff, Ne, tailIsLost_iff]
      rintro ⟨front, q, p, n, heq⟩
      exact hnot front q p n heq
    rw [State.append, if_neg (by omega), htail, if_neg (by simp), if_pos h]
    rfl
  · have hlost : tailIsLost s.reports = true := (tailIsLost_iff _).mpr ⟨front, q, p, n, htail⟩
    rw [State.append, if_neg (by omega), if_pos hlost, htail, countAtTail_concat]
    rfl
  · unfold alertCondition
    congr 1
    funext x
    cases x.report <;> simp [Report.isLost, Report.code]

/-! ### The kinds of a cycle -/

/-- Settles O19. -/
theorem cyclesAreClassified : Obligations.CyclesAreClassified := by
  intro isWrite enables data
  cases isWrite with
  | false => rfl
  | true =>
    by_cases hall : enables = 0xF#4
    · subst hall
      rfl
    by_cases hnone : enables = 0x0#4
    · subst hnone
      rfl
    have hkind : cycleKind true enables data = .partialWrite data := by simp [cycleKind, hall, hnone]
    rw [hkind]
    split
    · contradiction
    · rename_i h
      exact absurd (BitVec.eq_of_toNat_eq h) hall
    · rename_i h
      exact absurd (BitVec.eq_of_toNat_eq h) hnone
    · rfl

end Sys2Proof.Machine
end

section
/-! SUPPORT. Host cycles: strobes (O20 to O23), the HOST grant (O24), and the completions of its accesses (O25 to O33), each
command's meaning reduced once to what it does to the access in progress. -/

namespace Sys2Proof.Machine

/-! ### Strobes -/

theorem execHostStrobe_taken {s : State} (ha : s.award = none) (hstb : s.hstb = false) (hidle : s.host.state = .idle)
    (hreset : s.hreset = false) (hporeset : s.poreset = false) (address : HostAddress) (isWrite : Bool)
    (enables : BitVec 4) (data : DataWord) :
    exec (.hostStrobe address isWrite enables data) s =
      .next (({ s with hstb := true, strobeHeld := true } : State).strobe (newRecord address isWrite enables data)) := by
  have htakes : s.takesStrobe = true := by simp [State.takesStrobe, hstb, hidle, hreset, hporeset]
  change execHostStrobe address isWrite enables data s = _
  simp only [execHostStrobe, s.settled_of_award_none ha, htakes, if_true]

/-- The tests of R19, all passed. -/
theorem State.admission_admitted {s : State} {address : HostAddress} (hm : s.mode ≠ .uninit)
    (hrange : address.toNat / 8 < s.poolBase) (hswept : s.mode = .sweeping → s.translate (address.toNat / 8) < s.sweepLine) :
    s.admission address = .admitted (s.hostWord address) := by
  have hline : ¬ s.poolBase ≤ hostLine address := by
    rw [hostLine]
    omega
  have hsweep : ¬ (s.mode = .sweeping ∧ s.sweepLine ≤ s.translate (hostLine address)) := fun ⟨h, hle⟩ => by
    have := hswept h
    rw [hostLine] at hle
    omega
  rw [State.admission, if_neg hm, if_neg hline, if_neg hsweep]

/-- The state in which an admitted cycle waits for the port. -/
def State.waitingWith (s : State) (r : CycleRecord) : State :=
  { s with hstb := true, strobeHeld := true, host := { s.host with state := .waiting, record := some r } }

theorem State.strobe_waits {s : State} {r : CycleRecord} {word : Nat} (hadmitted : s.admission r.address = .admitted word)
    (hkind : ∀ d, r.kind ≠ .nullWrite d) :
    ({ s with hstb := true, strobeHeld := true } : State).strobe r =
      (s.waitingWith { r with word := some word }).arbitrate := by
  unfold State.strobe
  rw [show State.admission { s with hstb := true, strobeHeld := true } r.address = .admitted word from hadmitted]
  dsimp only
  split
  · rename_i d hnull
    exact absurd hnull (hkind d)
  · rfl

/-- Where no step is present a waiting cycle is granted (R49). -/
theorem State.decision_of_only_host {s : State} (hwaiting : s.hostWaiting = true) (hfirst : s.firstStep = none) :
    s.decision = some ⟨.host, .hostWaiting⟩ := by
  obtain ⟨hqueue, -, hdebt, -⟩ := s.firstStep_eq_none_iff.mp hfirst
  have hdrain : s.drainUrgent = false := by simp [State.drainUrgent, hqueue]
  have hpatrol : s.patrolUrgent = false := by
    rcases hdebt with hdebt | hmode
    · simp [State.patrolUrgent, State.stepPresent, hdebt]
    · simp [State.patrolUrgent, State.stepPresent, hmode]
  simp [State.decision, hdrain, hpatrol, hfirst, hwaiting]

/-- A waiting cycle that meets a FREE port without another requester is granted it (R48). -/
theorem State.arbitrate_of_waiting {s : State} (ha : s.award = none) (hwaiting : s.hostWaiting = true)
    (hfirst : s.port.holder = .free → s.firstStep = none) :
    s.arbitrate = { s with award := if s.port.holder = .free then some ⟨.host, .hostWaiting⟩ else none } := by
  rw [s.arbitrate_eq_decidedIfFree ha, State.decidedIfFree]
  by_cases hf : s.port.holder = .free
  · rw [if_pos hf, if_pos hf, State.decision_of_only_host hwaiting (hfirst hf)]
  · rw [if_neg hf, if_neg hf, ha]

/-- Settles O20: the strobe passes the tests, and on a FREE port the waiting cycle is the only requester. -/
theorem admittedStrobeWaits : Obligations.AdmittedStrobeWaits := by
  intro s address isWrite enables data ha hstb hidle hreset hporeset hm hrange hswept henables hfree
  have hkind : ∀ d, (newRecord address isWrite enables data).kind ≠ .nullWrite d := by
    intro d
    change cycleKind isWrite enables data ≠ _
    unfold cycleKind
    split_ifs with hw hall hnone
    · simp
    · exact absurd hnone (henables hw)
    · simp
    · simp
  have hwaits := State.strobe_waits (r := newRecord address isWrite enables data)
    (State.admission_admitted hm hrange hswept) hkind
  have hfirst (hf : s.port.holder = .free) : (s.waitingWith
      { newRecord address isWrite enables data with word := some (s.hostWord address) }).firstStep = none :=
    (State.firstStep_eq_none_iff _).mpr (s.decision_eq_none.mp (hfree hf)).2
  rw [execHostStrobe_taken ha hstb hidle hreset hporeset, hwaits]
  exact congrArg Host.Outcome.next (State.arbitrate_of_waiting ha rfl hfirst)

/-! ### Refused strobes -/

/-- A cycle refused while HSTB is held: the report, and the error response (R20, R22, R37). -/
theorem State.refuseCycle_of_held {s : State} (hheld : s.strobeHeld = true) (r : CycleRecord) (reason : RefusalReason) :
    s.refuseCycle r reason = State.append
      { s with
        host :=
          { state := .responding
            record := some
              { r with
                writeBackPass := false
                patrolPass := false
                starvationPass := false
                outcome := some (.refused reason) }
            hrdy := true
            herr := true
            hd := if r.kind = .read then some 0#32 else none } }
      (.hostRefused r.address r.kind.direction reason) := by
  calc s.refuseCycle r reason
    _ = State.respond
        { s.append (.hostRefused r.address r.kind.direction reason) with
          host := { s.host with
            record := some { r with writeBackPass := false, patrolPass := false, starvationPass := false } } }
        (.refused reason) (if r.kind = .read then some 0#32 else none) :=
      congrArg (fun t => State.respond t _ _) (State.append_withHost s _ _)
    _ = { s.append (.hostRefused r.address r.kind.direction reason) with
          host :=
            { state := .responding
              record := some
                { r with
                  writeBackPass := false
                  patrolPass := false
                  starvationPass := false
                  outcome := some (.refused reason) }
              hrdy := true
              herr := true
              hd := if r.kind = .read then some 0#32 else none } } := by
      rw [State.respond, if_pos (by simpa using hheld)]
      rfl
    _ = _ := (State.append_withHost s _ _).symm

/-- Settles O21: each clause names the first test that fails. -/
theorem refusedStrobeAnswers : Obligations.RefusedStrobeAnswers := by
  intro s address isWrite enables data ha hstb hidle hreset hporeset reason word hcases
  have hrefused : s.admission address = .refused reason word := by
    rcases hcases with ⟨hm, rfl, rfl⟩ | ⟨hm, hrange, rfl, rfl⟩ | ⟨hm, hrange, hswept, rfl, rfl⟩
    · rw [State.admission, if_pos hm]
    · rw [State.admission, if_neg hm, if_pos (show s.poolBase ≤ hostLine address from hrange)]
    · rw [State.admission, if_neg (by simp [hm]), if_neg (by rw [hostLine]; omega), if_pos ⟨hm, hswept⟩]
      rfl
  rw [execHostStrobe_taken ha hstb hidle hreset hporeset, State.strobe]
  rw [show State.admission { s with hstb := true, strobeHeld := true } (newRecord address isWrite enables data).address =
    .refused reason word from hrefused]
  dsimp only
  rw [State.refuseCycle_of_held rfl]
  have hread : (if cycleKind isWrite enables data = .read then some 0#32 else none) =
      if isWrite then none else some (0#32 : DataWord) := by
    unfold cycleKind
    split_ifs <;> simp_all
  have hdirection : (cycleKind isWrite enables data).direction = if isWrite then .write else .read := by
    unfold cycleKind
    split_ifs <;> rfl
  rw [← hread, ← hdirection]
  rfl

/-- Settles O22: a NULL WRITE passes the tests and is answered without an access. -/
theorem nullWriteCompletes : Obligations.NullWriteCompletes := by
  intro s address data ha hstb hidle hreset hporeset hm hrange hswept
  have hadmitted : State.admission { s with hstb := true, strobeHeld := true }
      (newRecord address true 0#4 data).address = .admitted (s.hostWord address) :=
    State.admission_admitted (s := { s with hstb := true, strobeHeld := true }) hm hrange hswept
  rw [execHostStrobe_taken ha hstb hidle hreset hporeset, State.strobe, hadmitted]
  rfl

/-- Settles O23: each edge changes its line, and the controller where the line is what it waits for. -/
theorem linesThatStartNothing : Obligations.LinesThatStartNothing := by
  intro s ha idle
  have hsettled := s.settled_of_award_none ha
  refine ⟨fun address isWrite enables data h => ?_, fun h => ?_, fun h => ?_, fun h => ?_, fun h => ?_, ?_, fun h => ?_⟩
  · have htakes : s.takesStrobe = false := by
      rcases h with h | h | h | h <;> simp [State.takesStrobe, h]
    change execHostStrobe address isWrite enables data s = _
    simp only [execHostStrobe, hsettled, htakes, Bool.false_eq_true, if_false]
  · simp [exec, execHstbDeassert, hsettled, h, idle, HostPort.none]
  · simp [exec, execHstbDeassert, hsettled, h]
  · simp [exec, execHresetDeassert, hsettled, h, idle, HostPort.none]
  · simp [exec, execHresetDeassert, hsettled, h]
  · simp only [exec, execPoresetDeassert, hsettled]
  · have hline : (s.hreset || s.poreset) = true := by simpa using h
    simp [exec, execHresetAssert, hsettled, hline]

/-! ### The HOST grant -/

theorem Slot.activeFor_iff (slot : Slot) (home : Nat) :
    slot.activeFor home = true ↔ ∃ origin pass, slot = .active home origin pass := by
  cases slot <;> simp [Slot.activeFor]

theorem State.activeSlot_of_only {s : State} {home i : Nat} {origin : Origin} {pass : Pass}
    (hi : s.slots[i]? = some (.active home origin pass))
    (honly : ∀ j origin pass, s.slots[j]? = some (.active home origin pass) → j = i) : s.activeSlot home = some i := by
  obtain ⟨hlt, hget⟩ := List.getElem?_eq_some_iff.mp hi
  rw [State.activeSlot, List.findIdx?_eq_some_iff_getElem]
  refine ⟨hlt, (Slot.activeFor_iff _ _).mpr ⟨origin, pass, hget⟩, fun j hj hactive => ?_⟩
  obtain ⟨origin', pass', hslot⟩ := (Slot.activeFor_iff _ _).mp hactive
  have := honly j origin' pass' (List.getElem?_eq_some_iff.mpr ⟨by omega, hslot⟩)
  omega

theorem State.activeSlot_of_none {s : State} {home : Nat}
    (h : ∀ (i : Nat) (origin : Origin) (pass : Pass), s.slots[i]? ≠ some (.active home origin pass)) :
    s.activeSlot home = none := by
  rw [State.activeSlot, List.findIdx?_eq_none_iff]
  intro slot hslot
  rw [Bool.eq_false_iff, Ne, Slot.activeFor_iff]
  rintro ⟨origin, pass, rfl⟩
  obtain ⟨i, hi⟩ := List.mem_iff_getElem?.mp hslot
  exact h i origin pass hi

/-- Settles O24: the translation slot by slot, and the grant by the cycle's kind. -/
theorem hostGrantBegins : Obligations.HostGrantBegins := by
  constructor
  · intro s home
    refine ⟨rfl, rfl, fun i origin pass hi honly => ?_, fun h => ?_⟩
    · have hactive := State.activeSlot_of_only hi honly
      exact ⟨hactive, by simp [State.translate, hactive]⟩
    · have hactive := State.activeSlot_of_none h
      exact ⟨hactive, by simp [State.translate, hactive]⟩
  · intro s g r ha hr hkind word
    have hgrant : exec .hostGrant s = .next s.grantHost := by
      simp [exec, execHostGrant, State.awardedTo, State.settled, ha, State.grant]
    have hcount : min 16 (s.starvation + 1) = if s.starvation < 16 then s.starvation + 1 else 16 := by
      split_ifs <;> omega
    rw [hgrant, State.grantHost, hr, ← hcount]
    unfold State.grantedRecord
    dsimp only
    cases hk : r.kind with
    | nullWrite d => exact absurd hk (hkind d)
    | _ => rfl

end Sys2Proof.Machine
end

section
/-! SUPPORT. The completions of a host grant's accesses (O25 to O33): each command's meaning on the access in progress, and the
response of a cycle on record. -/

namespace Sys2Proof.Machine

/-! ### The decoded data -/

/-- Only a SINGLE_DATA syndrome inverts a data bit (R6). -/
theorem decode_data_of_ne_singleData {w : StoredWord} (h : (decode w).cls ≠ .singleData) :
    (decode w).data = storedData w := by
  change decodedData w = _
  unfold decodedData
  cases hnamed : namedDataBit (syndrome w) with
  | none => rfl
  | some i =>
    have hweight : weight (syndrome w) = 3 := by
      by_contra hne
      rw [namedDataBit_eq_none_of_weight_ne hne] at hnamed
      cases hnamed
    exact absurd (show classOfSyndrome (syndrome w) = .singleData by simp [classOfSyndrome, hweight, hnamed]) h

/-- A flag with no error class is a marker's (R6). -/
theorem decode_flag_iff (w : StoredWord) :
    (decode w).flag = true ↔ (decode w).cls = .poisoned ∨ (decode w).cls = .double ∨ (decode w).cls = .multi := by
  simp only [decode]
  cases classOfSyndrome (syndrome w) <;> simp

theorem cls_of_error {c : DecodeClass} {e : ErrorClass} (h : c.error = some e) :
    (c = .singleData ∧ e = .singleData) ∨ (c = .singleCheck ∧ e = .singleCheck) ∨ (c = .double ∧ e = .double) ∨
      (c = .multi ∧ e = .multi) := by
  cases c <;> simp [DecodeClass.error] at h <;> simp [h]

/-! ### The response -/

theorem State.answered_of_eq {s t : State} (h : t.strobeHeld = s.strobeHeld) (r : CycleRecord) (o : HostOutcome)
    (hd : Option DataWord) : t.answered r o hd = s.answered r o hd := by
  unfold State.answered
  rw [h]

theorem State.answered_of_held {s : State} (h : s.strobeHeld = true) (r : CycleRecord) (o : HostOutcome)
    (hd : Option DataWord) : s.answered r o hd =
      { state := .responding, record := some { r with outcome := some o }, hrdy := true, herr := o.isError, hd := hd } := by
  cases o <;> simp [State.answered, h, HostOutcome.isError]

theorem State.answered_of_withdrawn {s : State} (h : s.strobeHeld = false) (r : CycleRecord) (o : HostOutcome)
    (hd : Option DataWord) : s.answered r o hd = { state := .idle, record := none, hrdy := false, herr := false, hd := none } := by
  simp [State.answered, h]

/-- The end of a host grant whose cycle is on record: the response, then the end of the grant. -/
theorem State.finishHost_answered {s t : State} {r : CycleRecord} (hr : t.host.record = some r)
    (hheld : t.strobeHeld = s.strobeHeld) (o : HostOutcome) (hd : Option DataWord) :
    t.finishHost o hd = ({ t with host := s.answered r o hd } : State).ended := by
  rw [State.finishHost_of_record t hr, State.answered_of_eq hheld]

/-! ### The commands on the access in progress -/

section
variable {s : State} (ha : s.award = none) (hp : s.port.abandoned = false)
include ha hp

theorem State.settled_live {x : Access} (hx : s.port.access = some x) : s.settled = s ∧ s.liveAccess = some x :=
  ⟨s.settled_of_award_none ha, (s.liveAccess_of_not_abandoned hp).trans hx⟩

theorem exec_hostReadComplete {r : CycleRecord} {word : Nat} (hx : s.port.access = some (.hostRead word))
    (hr : s.host.record = some r) (changed : StoredWord) :
    exec (.hostReadComplete changed) s =
      .next ((s.readCells word changed).2.hostReadDecoded r word (decode (s.readCells word changed).1)) := by
  obtain ⟨hsettled, hlive⟩ := State.settled_live ha hp hx
  simp only [exec, execHostReadComplete, hsettled, hlive, hr]

theorem exec_inlineWriteBackComplete {word : Nat} {stored : StoredWord}
    (hx : s.port.access = some (.inlineWriteBack word stored)) :
    exec .inlineWriteBackComplete s =
      .next (((s.writeCell word stored).supersede word).finishHost .okay (some (storedData stored))) := by
  obtain ⟨hsettled, hlive⟩ := State.settled_live ha hp hx
  simp only [exec, execInlineWriteBackComplete, hsettled, hlive]

theorem exec_partialWriteReadComplete {r : CycleRecord} {word : Nat} {data : DataWord}
    (hx : s.port.access = some (.mergeRead word)) (hr : s.host.record = some r) (hk : r.kind = .partialWrite data)
    (changed : StoredWord) :
    exec (.partialWriteReadComplete changed) s =
      .next ((s.readCells word changed).2.mergeDecoded r data word (decode (s.readCells word changed).1)) := by
  obtain ⟨hsettled, hlive⟩ := State.settled_live ha hp hx
  simp only [exec, execPartialWriteReadComplete, hsettled, hlive, hr, hk, CycleKind.partialData]

theorem exec_hostWriteComplete_single {word : Nat} {stored : StoredWord}
    (hx : s.port.access = some (.hostWrite word stored)) (hsingle : s.doubledTo word = none) :
    exec .hostWriteComplete s = .next (((s.writeCell word stored).supersede word).finishHost .okay none) := by
  obtain ⟨hsettled, hlive⟩ := State.settled_live ha hp hx
  simp only [exec, execHostWriteComplete, hsettled, hlive, hsingle]

theorem exec_hostWriteComplete_doubled {word target : Nat} {stored : StoredWord}
    (hx : s.port.access = some (.hostWrite word stored)) (hdouble : s.doubledTo word = some target) :
    exec .hostWriteComplete s =
      .next (((s.writeCell word stored).supersede word).nextHostAccess (.targetWrite target stored)) := by
  obtain ⟨hsettled, hlive⟩ := State.settled_live ha hp hx
  simp only [exec, execHostWriteComplete, hsettled, hlive, hdouble]

theorem exec_targetWriteComplete {word : Nat} {stored : StoredWord}
    (hx : s.port.access = some (.targetWrite word stored)) :
    exec .targetWriteComplete s = .next ((s.writeCell word stored).finishHost .okay none) := by
  obtain ⟨hsettled, hlive⟩ := State.settled_live ha hp hx
  simp only [exec, execTargetWriteComplete, hsettled, hlive]

end

/-! ### READs -/

/-- Settles O25. -/
theorem cleanReadAnswers : Obligations.CleanReadAnswers := by
  intro s r word changed ha hp hx hr found hcls
  have hdata := decode_data_of_ne_singleData (w := found.1) (by simp [hcls])
  refine ⟨fun h => State.answered_of_held h _ _ _, fun h => State.answered_of_withdrawn h _ _ _, ?_⟩
  rw [exec_hostReadComplete ha hp hx hr, State.hostReadDecoded]
  simp only [show (decode (s.readCells word changed).1).cls = .clean from hcls, DecodeClass.error]
  rw [if_neg nofun, show (decode (s.readCells word changed).1).data = storedData found.1 from hdata,
    State.finishHost_answered (s := s) (by simpa using hr) (by simp)]

/-- Settles O26. -/
theorem poisonedReadRefused : Obligations.PoisonedReadRefused := by
  intro s r word changed ha hp hx hr found hcls
  have hdata := decode_data_of_ne_singleData (w := found.1) (by simp [hcls])
  refine ⟨fun h => State.answered_of_held h _ _ _, fun h => State.answered_of_withdrawn h _ _ _, ?_⟩
  rw [exec_hostReadComplete ha hp hx hr, State.hostReadDecoded]
  simp only [show (decode (s.readCells word changed).1).cls = .poisoned from hcls, DecodeClass.error]
  rw [if_pos trivial, show (decode (s.readCells word changed).1).data = storedData found.1 from hdata,
    State.finishHost_answered (s := s) (by simpa using hr) (by simp), ← State.append_withHost]

theorem State.hostReadDecoded_error {s : State} {d : Decoded} {cls : ErrorClass} (h : d.cls.error = some cls)
    (r : CycleRecord) (word : Nat) : s.hostReadDecoded r word d = s.hostReadError r word d cls := by
  simp only [State.hostReadDecoded, h]

/-- A write-back request, said once: appended unless an entry holds the word (R62, R63). -/
theorem State.requestWriteBack_eq (s : State) (word : Nat) (data : DataWord) :
    s.requestWriteBack word data = { s with
      writeBacks :=
        if word ∈ s.writeBacks.map WriteBack.word then s.writeBacks
        else s.writeBacks ++ [{ word := word, data := data }] } := by
  have hqueued : (s.writeBacks.any fun w => w.word == word) = true ↔ word ∈ s.writeBacks.map WriteBack.word := by
    simp
  unfold State.requestWriteBack
  simp only [hqueued]
  split <;> rfl

theorem State.not_repairsInline {s : State} {r : CycleRecord} (hquiet : s.mode ≠ .quiet)
    (hgranted : r.grantedInQuiet = true → s.mode ≠ .sweeping) : s.repairsInline r = false := by
  cases hg : r.grantedInQuiet with
  | true => simp [State.repairsInline, hquiet, hgranted hg]
  | false => simp [State.repairsInline, hquiet, hg]

/-- Settles O27: outside QUIET, and outside R38's exception, the repair is queued. -/
theorem correctedReadQueuesWriteBack : Obligations.CorrectedReadQueuesWriteBack := by
  intro s r word changed cls ha hp hx hr hquiet hgranted found d herror hcorrected
  have hinline : found.2.repairsInline r = false :=
    State.not_repairsInline (by simpa [found] using hquiet) (by simpa [found] using hgranted)
  rw [exec_hostReadComplete ha hp hx hr, State.hostReadDecoded_error herror, State.hostReadError, if_pos hcorrected,
    if_neg (by simpa using hinline), State.requestWriteBack_eq,
    State.finishHost_answered (s := s) (by simpa using hr) (by simp), ← State.correctedRead_withHost]
  simp only [State.readCells_writeBacks]
  rfl

/-- Settles O28: the reading block's report and the table's, in whichever order, then the error response. -/
theorem uncorrectableReadReported : Obligations.UncorrectableReadReported := by
  intro s r word changed cls ha hp hx hr found herror huncorrected
  have hdata : (decode found.1).data = storedData found.1 := decode_data_of_ne_singleData fun h => by
    rcases cls_of_error herror with ⟨-, rfl⟩ | ⟨h', -⟩ | ⟨h', -⟩ | ⟨h', -⟩
    · cases huncorrected
    all_goals cases h.symm.trans h'
  refine ⟨fun h => State.answered_of_held h _ _ _, fun h => State.answered_of_withdrawn h _ _ _, ?_⟩
  rw [exec_hostReadComplete ha hp hx hr, State.hostReadDecoded_error herror, State.hostReadError,
    if_neg (by simp [huncorrected]), show (decode (s.readCells word changed).1).data = storedData found.1 from hdata,
    State.finishHost_answered (s := s) (by simpa using hr) (by simp), ← State.uncorrectableRead_withHost]

/-- Settles O29: the repair is the next access of the grant, and its completion supersedes and answers. -/
theorem quietReadRepairsInline : Obligations.QuietReadRepairsInline := by
  constructor
  · intro s r word changed cls ha hp hx hr hmode found herror hcorrected
    have hinline : found.2.repairsInline r = true := by
      rcases hmode with hquiet | ⟨hgranted, hsweeping⟩
      · simp [State.repairsInline, found, hquiet]
      · simp [State.repairsInline, found, hgranted, hsweeping]
    refine ⟨!Config.laterAccessBegun found.2.freeIndex, ?_⟩
    rw [exec_hostReadComplete ha hp hx hr, State.hostReadDecoded_error herror, State.hostReadError, if_pos hcorrected,
      if_pos hinline, State.nextHostAccess, State.correctedRead_port, State.readCells_port, State.correctedRead_freeIndex]
    rfl
  · intro s r word stored ha hp hx hr
    rw [exec_inlineWriteBackComplete ha hp hx, State.finishHost_answered (s := s) (by simpa using hr) (by simp)]
    rfl

/-! ### PARTIAL WRITEs -/

/-- The lane that a data bit lies in decides where the merged bit comes from (R32). -/
theorem getLsbD_mergeLanes (enables : BitVec 4) (decoded written : DataWord) {i : Nat} (hi : i < 32) :
    (mergeLanes enables decoded written).getLsbD i =
      if enables.getLsbD (i / 8) then written.getLsbD i else decoded.getLsbD i := by
  have hmask : (laneMask enables).getLsbD i = enables.getLsbD (i / 8) := by
    have htable : ∀ e : BitVec 4, ∀ j < 32, (laneMask e).getLsbD j = e.getLsbD (j / 8) := by decide
    exact htable enables i hi
  rw [mergeLanes, BitVec.getLsbD_or, BitVec.getLsbD_and, BitVec.getLsbD_and, BitVec.getLsbD_not, hmask]
  cases enables.getLsbD (i / 8) <;> simp [hi]

/-- Without a flag the word is CLEAN or corrected (R5, R6). -/
theorem decode_cls_of_unflagged {w : StoredWord} (h : (decode w).flag = false) :
    (decode w).cls = .clean ∨ (decode w).cls = .singleData ∨ (decode w).cls = .singleCheck := by
  have hflag := (decode_flag_iff w).not.mp (by simp [h])
  cases hcls : (decode w).cls <;> simp_all

/-- Settles O30: by the class of the word read, CLEAN or corrected. -/
theorem mergeIsMade : Obligations.MergeIsMade := by
  intro s r word changed data ha hp hx hr hk found d hflag
  refine ⟨mergeLanes r.enables d.data data, !Config.laterAccessBegun found.2.freeIndex,
    fun i hi => getLsbD_mergeLanes _ _ _ hi, ?_⟩
  have hcls : d.cls = .clean ∨ d.cls = .singleData ∨ d.cls = .singleCheck := decode_cls_of_unflagged hflag
  have hdecoded : decode (s.readCells word changed).1 = d := rfl
  rw [exec_partialWriteReadComplete ha hp hx hr hk, hdecoded, State.mergeDecoded, if_neg (by simp [hflag])]
  unfold State.makeMerge
  rcases hcls with h | h | h
  all_goals
    simp only [h, DecodeClass.error, State.nextHostAccess, State.correctedRead_port, State.readCells_port,
      State.correctedRead_freeIndex]
    rfl

/-- Settles O31: by the class of the word read, POISONED or uncorrectable. -/
theorem mergeIsRefused : Obligations.MergeIsRefused := by
  intro s r word changed data ha hp hx hr hk found ended own hflag
  refine ⟨fun h => State.answered_of_held h _ _ _, fun h => State.answered_of_withdrawn h _ _ _, ?_⟩
  have hdecoded : decode (s.readCells word changed).1 = decode found.1 := rfl
  rw [exec_partialWriteReadComplete ha hp hx hr hk, hdecoded, State.mergeDecoded, if_pos hflag]
  unfold State.refuseMerge
  rcases (decode_flag_iff _).mp hflag with h | h | h
  all_goals
    simp only [h, DecodeClass.error]
    rw [State.finishHost_answered (s := s) (by simpa using hr) (by simp)]
  · rw [← State.append_withHost]
  · rw [← State.uncorrectableRead_withHost]
  · rw [← State.uncorrectableRead_withHost]

/-! ### Host writes -/

/-- Where the second write goes (R144). -/
theorem State.doubledTo_eq_some {s : State} {c : Copy} (hc : s.copy = some c) {word : Nat} (hline : word / 8 = c.sourceLine)
    (hindex : word % 8 < c.cursor) : s.doubledTo word = some ((s.poolBase + c.target) * 8 + word % 8) := by
  simp only [State.doubledTo, hc]
  exact if_pos ⟨hline, hindex⟩

theorem State.doubledTo_eq_none {s : State} {word : Nat}
    (h : ∀ c, s.copy = some c → ¬ (word / 8 = c.sourceLine ∧ word % 8 < c.cursor)) : s.doubledTo word = none := by
  unfold State.doubledTo
  split
  · exact if_neg (h _ ‹_›)
  · rfl

/-- Settles O32: by where the word lies against the copy in flight. -/
theorem hostWriteEnds : Obligations.HostWriteEnds := by
  intro s r word stored ha hp hr
  refine ⟨fun hx => ⟨fun hnot => ?_, fun c hc hline hindex => ?_⟩, fun hx => ?_⟩
  · rw [exec_hostWriteComplete_single ha hp hx (State.doubledTo_eq_none hnot),
      State.finishHost_answered (s := s) (by simpa using hr) (by simp)]
    rfl
  · refine ⟨!Config.laterAccessBegun s.freeIndex, ?_⟩
    rw [exec_hostWriteComplete_doubled ha hp hx (State.doubledTo_eq_some hc hline hindex)]
    rfl
  · rw [exec_targetWriteComplete ha hp hx, State.finishHost_answered (s := s) (by simpa using hr) (by simp)]
    rfl

/-! ### Abandoned accesses -/

/-- Settles O33: a write is held, a read leaves the array alone, and the grant ends. -/
theorem abandonedAccessEnds : Obligations.AbandonedAccessEnds := by
  intro s x ha hp hx
  have hexec : exec .abandonedAccessComplete s = .next s.completeAbandoned.endGrant := by
    simp only [exec, execAbandonedAccessComplete, s.settled_of_award_none ha, hp, if_true]
  rw [hexec, State.endGrant_eq_ended, State.completeAbandoned, hx]
  cases x <;> rfl

end Sys2Proof.Machine
end

section
/-! SUPPORT. The arbiter's five cases (O34), the grants of the internal steps (O35), and the patrol cursor's walk (O38). -/

namespace Sys2Proof.Machine

/-! ### The five cases -/

theorem State.passed_iff (s : State) (flag : CycleRecord → Bool) :
    s.passed flag = true ↔ s.host.state = .waiting ∧ ∃ r, s.host.record = some r ∧ flag r = true := by
  simp only [State.passed, State.hostWaiting, Bool.and_eq_true, beq_iff_eq]
  cases s.host.record <;> simp

theorem State.stepPresent_iff (s : State) (w : Step) :
    s.stepPresent w = true ↔ match w with
      | .drain => s.writeBacks ≠ []
      | .copy => s.copy ≠ none
      | .patrol => 1 ≤ s.patrol.debt ∧ s.mode = .normal
      | .sweep => s.mode = .sweeping := by
  cases w <;> simp [State.stepPresent, Option.isSome_iff_ne_none]

/-- The first step present, in the order W, M, P, S (R49). -/
theorem State.firstStep_eq_some_iff (s : State) (w : Step) :
    s.firstStep = some w ↔
      (w = .drain ∧ s.stepPresent .drain = true) ∨
      (w = .copy ∧ ¬ s.stepPresent .drain = true ∧ s.stepPresent .copy = true) ∨
      (w = .patrol ∧ ¬ s.stepPresent .drain = true ∧ ¬ s.stepPresent .copy = true ∧ s.stepPresent .patrol = true) ∨
      (w = .sweep ∧ ¬ s.stepPresent .drain = true ∧ ¬ s.stepPresent .copy = true ∧ ¬ s.stepPresent .patrol = true ∧
        s.stepPresent .sweep = true) := by
  unfold State.firstStep
  simp only [List.find?]
  cases s.stepPresent .drain with
  | true => cases w <;> simp
  | false =>
    cases s.stepPresent .copy with
    | true => cases w <;> simp
    | false =>
      cases s.stepPresent .patrol with
      | true => cases w <;> simp
      | false => cases s.stepPresent .sweep <;> cases w <;> simp

/-- Settles O34: the tests of the decision in their order. -/
theorem decisionFollowsTheCases : Obligations.DecisionFollowsTheCases := by
  intro s waiting flagged drain copy patrol sweep first case1 case2 case3
  have hfirst (w : Step) : first w ↔ s.firstStep = some w := by
    rw [State.firstStep_eq_some_iff]
    simp only [State.stepPresent_iff, first, drain, copy, patrol, sweep]
  have hwaiting : waiting ↔ s.hostWaiting = true := by simp [waiting, State.hostWaiting]
  have hflagged (flag : CycleRecord → Bool) : flagged flag ↔ s.passed flag = true := (s.passed_iff flag).symm
  have h1 : case1 ↔ (s.drainUrgent && !s.passed CycleRecord.writeBackPass) = true := by
    simp [case1, hflagged, State.drainUrgent]
  have h2 : case2 ↔ (s.patrolUrgent && !s.passed CycleRecord.patrolPass) = true := by
    simp only [case2, hflagged, State.patrolUrgent, Bool.and_eq_true, State.stepPresent_iff, patrol, beq_iff_eq,
      Bool.not_eq_true']
    simp [and_assoc]
  have h3 : case3 ↔ (s.starvation == 16 && s.firstStep.isSome && !s.passed CycleRecord.starvationPass) = true := by
    simp [case3, hflagged, hfirst, Option.isSome_iff_exists, and_assoc]
  rw [h1, h2, h3, hwaiting]
  unfold State.decision
  refine ⟨fun c1 => ?_, fun c1 c2 => ?_, fun w c1 c2 c3 hw => ?_, fun c1 c2 c3 h => ?_, fun w c1 c2 c3 h hw => ?_,
    fun h hnone => ?_⟩
  · rw [if_pos c1]
  · rw [if_neg c1, if_pos c2]
  · rw [if_neg c1, if_neg c2, if_pos c3, (hfirst w).mp hw]
    rfl
  · rw [if_neg c1, if_neg c2, if_neg c3, if_pos h]
  · rw [if_neg c1, if_neg c2, if_neg c3, if_neg h, (hfirst w).mp hw]
    rfl
  · refine s.decision_eq_none_iff.mpr ⟨by simpa using h, ?_⟩
    cases hstep : s.firstStep with
    | none => rfl
    | some w => exact absurd ((hfirst w).mpr hstep) (hnone w)

/-! ### The patrol cursor -/

theorem State.searchLine_of_eq {s t : State} (hslots : t.slots = s.slots) (hset : t.settings = s.settings)
    (fuel line : Nat) (wrapped : Bool) : t.searchLine fuel line wrapped = s.searchLine fuel line wrapped := by
  have hall : t.memoryLines = s.memoryLines := by rw [State.memoryLines, hset]; rfl
  have hrecord (l : Nat) : t.ofRecord l = s.ofRecord l := by
    unfold State.ofRecord State.activeSlot State.homeOfSpare State.poolBase State.memoryLines
    rw [hslots, hset]
  induction fuel generalizing line wrapped with
  | zero => rfl
  | succ fuel ih => simp only [State.searchLine, hall, hrecord, ih]

/-- The entries that leave the table at a pass end, under the new pass number (R108). -/
def State.agedHealth (s : State) (pass : Pass) : List (Option HealthEntry) :=
  if s.settings.agePasses = 0 then s.health
  else s.health.map fun place => place.filter fun e =>
    !(e.state == .watch && decide (s.settings.agePasses ≤ e.age pass))

/-- The cursor on the next line of record, and what a wrap does, said once (R79, R84). -/
theorem State.nextLine_eq (s : State) :
    s.nextLine = { s with
      patrol := { s.patrol with
        line := (s.searchLine s.memoryLines s.patrol.line false).1
        index := 0
        pass :=
          if (s.searchLine s.memoryLines s.patrol.line false).2 then s.patrol.pass + 1 else s.patrol.pass }
      health :=
        if (s.searchLine s.memoryLines s.patrol.line false).2 then s.agedHealth (s.patrol.pass + 1) else s.health } := by
  unfold State.nextLine
  dsimp only
  cases (s.searchLine s.memoryLines s.patrol.line false).2 with
  | false => rfl
  | true =>
    simp only [if_true, State.passEnd, State.ageHealth, State.agedHealth]
    split <;> rfl

/-- A line found at once: from the line before it the search reads nothing else. -/
theorem State.searchLine_step {s : State} {fuel line : Nat} {wrapped : Bool} :
    s.searchLine (fuel + 1) line wrapped =
      let next := if line + 1 < s.memoryLines then line + 1 else 0
      let wraps := wrapped || !decide (line + 1 < s.memoryLines)
      if s.ofRecord next then (next, wraps) else s.searchLine fuel next wraps := rfl

/-- Upwards to the next line of record, past the lines between. -/
theorem State.searchLine_up {s : State} {l : Nat} (hl : l < s.memoryLines) (hrecord : s.ofRecord l = true) {line : Nat}
    (hline : line < l) (hbetween : ∀ m, line < m → m < l → s.ofRecord m = false) {fuel : Nat} (hfuel : l - line ≤ fuel)
    (wrapped : Bool) : s.searchLine fuel line wrapped = (l, wrapped) := by
  induction fuel generalizing line with
  | zero => omega
  | succ fuel ih =>
    have hin : line + 1 < s.memoryLines := by omega
    rw [State.searchLine_step]
    simp only [if_pos hin, decide_eq_true hin, Bool.not_true, Bool.or_false]
    by_cases heq : line + 1 = l
    · rw [heq, if_pos hrecord]
    · rw [if_neg (by simp [hbetween (line + 1) (by omega) (by omega)])]
      exact ih (by omega) (fun m hm hm' => hbetween m (by omega) hm') (by omega)

/-- Over the array's end to line 0 and up from there. -/
theorem State.searchLine_wrap {s : State} {l : Nat} (hl : l < s.memoryLines) (hrecord : s.ofRecord l = true) {line : Nat}
    (hline : line < s.memoryLines) (habove : ∀ m, m < s.memoryLines → line < m ∨ m < l → s.ofRecord m = false) {fuel : Nat}
    (hfuel : s.memoryLines - line + l ≤ fuel) (wrapped : Bool) : s.searchLine fuel line wrapped = (l, true) := by
  induction fuel generalizing line wrapped with
  | zero => omega
  | succ fuel ih =>
    rw [State.searchLine_step]
    by_cases hin : line + 1 < s.memoryLines
    · simp only [if_pos hin, decide_eq_true hin, Bool.not_true, Bool.or_false]
      rw [if_neg (by simp [habove (line + 1) hin (.inl (by omega))])]
      exact ih hin (fun m hm hm' => habove m hm (hm'.imp (by omega) id)) (by omega) wrapped
    · simp only [if_neg hin, decide_eq_false hin, Bool.not_false, Bool.or_true]
      by_cases hzero : l = 0
      · rw [← hzero, if_pos hrecord]
      · rw [if_neg (by simp [habove 0 (by omega) (.inr (by omega))])]
        exact State.searchLine_up hl hrecord (by omega) (fun m hm hm' => habove m (by omega) (.inr hm')) (by omega) true

theorem Slot.activeHome_eq_some_iff (slot : Slot) (home : Nat) :
    slot.activeHome = some home ↔ ∃ origin pass, slot = .active home origin pass := by
  cases slot <;> simp [Slot.activeHome]

theorem State.ofRecord_below {s : State} {l : Nat} (hl : l < s.poolBase) :
    s.ofRecord l = true ↔ ∀ (i : Nat) (o : Origin) (p : Pass), s.slots[i]? ≠ some (.active l o p) := by
  rw [State.ofRecord, if_pos hl, Option.isNone_iff_eq_none]
  refine ⟨fun h i o p hi => ?_, State.activeSlot_of_none⟩
  rw [State.activeSlot, List.findIdx?_eq_none_iff] at h
  have := h _ (List.mem_of_getElem? hi)
  simp [Slot.activeFor] at this

theorem State.ofRecord_pool {s : State} {l : Nat} (hl : s.poolBase ≤ l) :
    s.ofRecord l = true ↔ ∃ home o p, s.slots[l - s.poolBase]? = some (.active home o p) := by
  rw [State.ofRecord, if_neg (by omega), State.homeOfSpare, if_pos hl, Option.isSome_iff_exists]
  simp only [Option.bind_eq_some_iff, Slot.activeHome_eq_some_iff]
  constructor
  · rintro ⟨home, slot, hslot, o, p, rfl⟩
    exact ⟨home, o, p, hslot⟩
  · rintro ⟨home, o, p, hslot⟩
    exact ⟨home, _, hslot, o, p, rfl⟩

/-- Settles O38: the search goes up to the line, or over the end of the array and up from line 0. -/
theorem cursorFindsNextLineOfRecord : Obligations.CursorFindsNextLineOfRecord := by
  intro s
  refine ⟨fun l hl => State.ofRecord_below hl, fun l hl => State.ofRecord_pool hl, fun h => ?_, fun h => ?_,
    fun l hline hl hrecord => ⟨fun hup hbetween => ?_, fun hdown habove => ?_⟩⟩
  · rw [State.advancePatrol, if_pos h]
  · rw [State.advancePatrol, if_neg (by omega)]
  · rw [State.nextLine_eq, State.searchLine_up hl hrecord hup hbetween (by omega)]
    rfl
  · rw [State.nextLine_eq, State.searchLine_wrap hl hrecord hline habove (by omega)]
    rfl

/-! ### The grants of the steps -/

/-- The state after the grant of a step: its first access on the port, the counter and the flag (R50, R51, R52). -/
theorem State.grantStep_beginAccess (s : State) (g : GrantCase) (which : Step) (x : Access) :
    (s.grantStep g).beginAccess (.step which) x = { s with
      award := none
      decisionOpen := false
      starvation := 0
      host :=
        if s.host.state = .waiting then { s.host with record := s.host.record.map fun r => r.passOver g } else s.host
      port := { holder := .step which, access := some x, gap := false, abandoned := false } } := by
  rw [State.grantStep_eq]
  rfl

/-- The walk of the cursor reads neither the controller nor the arbiter, nor debt. -/
theorem State.checkPatrolLine_with (s : State) (h : HostPort) (a : Option Award) (o : Bool) (n debt : Nat) :
    ({ s with host := h, award := a, decisionOpen := o, starvation := n,
              patrol := { s.patrol with debt := debt } } : State).checkPatrolLine =
      { s.checkPatrolLine with host := h, award := a, decisionOpen := o, starvation := n,
                               patrol := { s.checkPatrolLine.patrol with debt := debt } } := by
  have hsearch := State.searchLine_of_eq (s := s) (t := { s with
    host := h, award := a, decisionOpen := o, starvation := n, patrol := { s.patrol with debt := debt } }) rfl rfl
  unfold State.checkPatrolLine
  change (if s.ofRecord s.patrol.line = true then _ else _) = _
  split
  · rfl
  · rw [State.nextLine_eq, State.nextLine_eq, hsearch]
    rfl

/-- The grant of P: the cursor is moved on to a line of record, and debt falls by 1 (R80). -/
theorem State.grantPatrol_eq (s : State) (g : GrantCase) :
    s.grantPatrol g = (State.grantStep { s.checkPatrolLine with
        patrol := { s.checkPatrolLine.patrol with debt := s.patrol.debt - 1 } } g).beginAccess (.step .patrol)
      (.patrolRead (wordAt s.checkPatrolLine.patrol.line s.checkPatrolLine.patrol.index)) := by
  have hwaiting : s.checkPatrolLine.host = s.host := by rw [State.checkPatrolLine_changes]
  unfold State.grantPatrol
  rw [State.grantStep_eq, State.grantStep_eq]
  dsimp only
  rw [State.checkPatrolLine_with, hwaiting]

/-- Settles O35: each grant begins at the word that its requester's own state names. -/
theorem stepGrantsBegin : Obligations.StepGrantsBegin := by
  intro s g granted
  refine ⟨fun w rest ha hqueue => ?_, fun ha => ?_, fun c ha hc => ?_, fun ha => ?_⟩
  · have hexec : exec .drainGrant s =
        .next ((s.grantStep g).beginAccess (.step .drain) (.drainWrite w.word (encode w.data))) := by
      simp [exec, execDrainGrant, State.awardedTo, State.settled, ha, State.grant, State.grantDrain, hqueue]
    rw [hexec, State.grantStep_beginAccess]
    cases g <;> rfl
  · intro moved
    have hexec : exec .patrolGrant s = .next (s.grantPatrol g) := by
      simp [exec, execPatrolGrant, State.awardedTo, State.settled, ha, State.grant]
    have hhost : s.checkPatrolLine.host = s.host := by rw [State.checkPatrolLine_changes]
    rw [hexec, State.grantPatrol_eq, State.grantStep_beginAccess]
    dsimp only
    rw [hhost]
    cases g <;> rfl
  · have hexec : exec .copyGrant s =
        .next ((s.grantStep g).beginAccess (.step .copy) (.copyRead (wordAt c.sourceLine c.cursor))) := by
      simp [exec, execCopyGrant, State.awardedTo, State.settled, ha, State.grant, State.grantCopy, hc]
    rw [hexec, State.grantStep_beginAccess]
    cases g <;> rfl
  · have hexec : exec .sweepGrant s = .next
        ((s.grantStep g).beginAccess (.step .sweep) (.sweepWrite (wordAt s.sweepLine s.sweepIndex) 0#39)) := by
      simp [exec, execSweepGrant, State.awardedTo, State.settled, ha, State.grant, State.grantSweep]
    rw [hexec, State.grantStep_beginAccess]
    cases g <;> rfl

end Sys2Proof.Machine
end

section
/-! SUPPORT. The completions of the steps' accesses (O37, O39, O41 to O43) and the take (O40). -/

namespace Sys2Proof.Machine

/-! ### The commands on the access in progress -/

section
variable {s : State} (ha : s.award = none) (hp : s.port.abandoned = false)
include ha hp

theorem exec_drainWriteComplete {word : Nat} {stored : StoredWord} (hx : s.port.access = some (.drainWrite word stored)) :
    exec .drainWriteComplete s =
      .next ({ s.writeCell word stored with writeBacks := s.writeBacks.tail } : State).endGrant := by
  obtain ⟨hsettled, hlive⟩ := State.settled_live ha hp hx
  simp only [exec, execDrainWriteComplete, hsettled, hlive, State.writeCell_writeBacks]

theorem exec_patrolReadComplete {word : Nat} (hx : s.port.access = some (.patrolRead word)) (changed : StoredWord) :
    exec (.patrolReadComplete changed) s =
      .next ((s.readCells word changed).2.patrolReadDecoded word (decode (s.readCells word changed).1)) := by
  obtain ⟨hsettled, hlive⟩ := State.settled_live ha hp hx
  simp only [exec, execPatrolReadComplete, hsettled, hlive]

theorem exec_patrolWriteComplete {word : Nat} {stored : StoredWord}
    (hx : s.port.access = some (.patrolWrite word stored)) :
    exec .patrolWriteComplete s = .next ((s.writeCell word stored).supersede word).advancePatrol.endGrant := by
  obtain ⟨hsettled, hlive⟩ := State.settled_live ha hp hx
  simp only [exec, execPatrolWriteComplete, hsettled, hlive]

theorem exec_copyReadComplete {c : Copy} {word : Nat} (hx : s.port.access = some (.copyRead word)) (hc : s.copy = some c)
    (changed : StoredWord) :
    exec (.copyReadComplete changed) s =
      .next ((s.readCells word changed).2.copyReadDecoded c word (decode (s.readCells word changed).1)) := by
  obtain ⟨hsettled, hlive⟩ := State.settled_live ha hp hx
  simp only [exec, execCopyReadComplete, hsettled, hlive, hc]

theorem exec_copyWriteComplete {c : Copy} {word : Nat} {stored : StoredWord} {source : DecodeClass}
    (hx : s.port.access = some (.copyWrite word stored source)) (hc : s.copy = some c) :
    exec .copyWriteComplete s = .next ((s.writeCell word stored).copyStepEnds c source).endGrant := by
  obtain ⟨hsettled, hlive⟩ := State.settled_live ha hp hx
  simp only [exec, execCopyWriteComplete, hsettled, hlive, hc]

theorem exec_sweepWriteComplete {word : Nat} {stored : StoredWord} (hx : s.port.access = some (.sweepWrite word stored)) :
    exec .sweepWriteComplete s = .next ((s.writeCell word stored).supersede word).advanceSweep.endGrant := by
  obtain ⟨hsettled, hlive⟩ := State.settled_live ha hp hx
  simp only [exec, execSweepWriteComplete, hsettled, hlive]

end

/-! ### Reports and the port -/

/-- A change of the port alone commutes with a report and with a corrected read. -/
theorem State.append_withPort (s : State) (q : MemoryPort) (r : Report) :
    ({ s with port := q } : State).append r = { s.append r with port := q } := by
  have hc := State.append_with s s.host q r
  rw [show ({ s with port := q } : State) = { s with host := s.host, port := q } from rfl, hc]
  apply State.ext <;> simp

theorem State.correctedRead_withPort (s : State) (q : MemoryPort) (word : Nat) (cls : ErrorClass) (source : EventSource) :
    ({ s with port := q } : State).correctedRead word cls source = { s.correctedRead word cls source with port := q } := by
  have hc := State.correctedRead_with s s.host q word cls source
  rw [show ({ s with port := q } : State) = { s with host := s.host, port := q } from rfl, hc]
  apply State.ext <;> simp

/-! ### The drain and the patrol -/

/-- Settles O37. -/
theorem drainWriteEnds : Obligations.DrainWriteEnds := by
  intro s w rest word stored ha hp hx hqueue
  rw [exec_drainWriteComplete ha hp hx, State.endGrant_eq_ended, hqueue]
  rfl

/-- Settles O39: by the class of the word read, then the correction write. -/
theorem patrolStepEnds : Obligations.PatrolStepEnds := by
  intro s word ha hp
  refine ⟨fun changed hx => ?_, fun stored hx => ?_⟩
  · intro found d
    have hdecoded : decode (s.readCells word changed).1 = d := rfl
    refine ⟨fun hcls => ?_, fun cls herror hcorrected => ?_, fun cls herror huncorrected => ?_⟩
    · have herror : d.cls.error = none := by rcases hcls with h | h <;> rw [h] <;> rfl
      rw [exec_patrolReadComplete ha hp hx, hdecoded]
      simp only [State.patrolReadDecoded, herror, State.endGrant_eq_ended]
      rfl
    · rw [exec_patrolReadComplete ha hp hx, hdecoded]
      simp only [State.patrolReadDecoded, herror, hcorrected, if_true, State.nextAccess, State.correctedRead_port,
        State.readCells_port]
      exact congrArg Host.Outcome.next (State.correctedRead_withPort found.2 _ word cls .patrol).symm
    · rw [exec_patrolReadComplete ha hp hx, hdecoded]
      simp only [State.patrolReadDecoded, herror, huncorrected, Bool.false_eq_true, if_false, State.endGrant_eq_ended]
      rfl
  · rw [exec_patrolWriteComplete ha hp hx, State.endGrant_eq_ended]
    rfl

/-! ### The copy -/

theorem classOfSyndrome_eq_clean_iff (c : CheckBits) : classOfSyndrome c = .clean ↔ c = 0#7 := by
  rw [← weight_eq_zero_iff]
  unfold classOfSyndrome
  split_ifs <;> simp <;> omega

/-- Data and syndrome determine a stored word: with syndrome 0 it is its data's encoding (R3, R4). -/
theorem encode_storedData {w : StoredWord} (h : (decode w).cls = .clean) : encode (storedData w) = w := by
  have hzero : syndrome w = 0#7 := (classOfSyndrome_eq_clean_iff _).mp h
  calc encode (storedData w) = storeWord (storedCheck w) (storedData w) := by
        rw [encode, storedCheck_eq_syndrome_xor, hzero, BitVec.zero_xor]
    _ = w := storeWord_storedCheck_storedData w

/-- The word that a copy forms from a word without a flag, and from one with it (R140, R141). -/
theorem copied_of_unflagged {w : StoredWord} (h : (decode w).flag = false) :
    (decode w).copied = encode (decode w).data := by
  simp only [Decoded.copied, h, Bool.false_eq_true, if_false]
  rfl

theorem copied_of_flagged {w : StoredWord} (h : (decode w).flag = true) :
    (decode w).copied = poisonMarker (storedData w) := by
  have hdata : (decode w).data = storedData w := decode_data_of_ne_singleData fun hcls => by
    rcases (decode_flag_iff w).mp h with h' | h' | h' <;> cases hcls.symm.trans h'
  simp only [Decoded.copied, h, if_true, hdata]

/-- A POISONED word is copied as it is (R141). -/
theorem copied_of_poisoned {w : StoredWord} (h : (decode w).cls = .poisoned) : (decode w).copied = w := by
  rw [copied_of_flagged ((decode_flag_iff w).mpr (.inl h))]
  exact poisonMarker_storedData ((classOfSyndrome_eq_poisoned_iff _).mp h)

theorem decode_unflagged {w : StoredWord} (h : (decode w).cls = .clean ∨ (decode w).cls = .singleData ∨
    (decode w).cls = .singleCheck) : (decode w).flag = false := by
  rw [Bool.eq_false_iff, Ne, decode_flag_iff]
  rcases h with h | h | h <;> simp [h]

/-- Settles O41: by the class of the word read. -/
theorem copyStepReads : Obligations.CopyStepReads := by
  intro s c word changed ha hp hx hc found d begun
  have hdecoded : decode (s.readCells word changed).1 = d := rfl
  have hdata (h : d.cls ≠ .singleData) : d.data = storedData found.1 := decode_data_of_ne_singleData h
  have hbegins (stored : StoredWord) (h : d.copied = stored) (hclass : ¬ (d.cls = .double ∨ d.cls = .multi)) :
      found.2.copyReadDecoded c word d = begun stored := by
    simp only [State.copyReadDecoded, if_neg hclass, h, State.nextAccess, begun, found, State.readCells_port]
    rw [State.poolBase, State.memoryLines, State.readCells_settings]
    rfl
  have hreports (h : d.cls = .double ∨ d.cls = .multi) : found.2.copyReadDecoded c word d =
      (begun (poisonMarker (storedData found.1))).append (.uncorrectable word (d.cls == .multi) .migration) := by
    have hcopied : d.copied = poisonMarker (storedData found.1) :=
      copied_of_flagged ((decode_flag_iff _).mpr (.inr h))
    simp only [begun, State.append_withPort]
    simp only [State.copyReadDecoded, if_pos h, hcopied, State.nextAccess, State.append_port, found,
      State.readCells_port]
    rw [State.poolBase, State.memoryLines, State.append_settings, State.readCells_settings]
    rfl
  rw [exec_copyReadComplete ha hp hx hc, hdecoded]
  cases hcls : d.cls with
  | clean =>
    refine congrArg Host.Outcome.next (hbegins _ ?_ (by simp [hcls]))
    rw [copied_of_unflagged (decode_unflagged (.inl hcls)), show (decode found.1).data = storedData found.1 from
      hdata (by simp [hcls]), encode_storedData hcls]
  | singleData =>
    exact congrArg Host.Outcome.next
      (hbegins _ (copied_of_unflagged (decode_unflagged (.inr (.inl hcls)))) (by simp [hcls]))
  | singleCheck =>
    refine congrArg Host.Outcome.next (hbegins _ ?_ (by simp [hcls]))
    rw [copied_of_unflagged (decode_unflagged (.inr (.inr hcls))), show (decode found.1).data = storedData found.1 from
      hdata (by simp [hcls])]
  | poisoned => exact congrArg Host.Outcome.next (hbegins _ (copied_of_poisoned hcls) (by simp [hcls]))
  | double =>
    have := hreports (.inl hcls)
    rw [hcls] at this
    exact congrArg Host.Outcome.next this
  | multi =>
    have := hreports (.inr hcls)
    rw [hcls] at this
    exact congrArg Host.Outcome.next this

/-! ### The sweep -/

/-- From the last word of a line the cursor moves to the next line, or the sweep completes (R162, R163). -/
theorem State.advanceSweep_of_last {s : State} (h : s.sweepIndex = 7) :
    s.advanceSweep =
      if s.sweepLine + 1 = s.memoryLines then
        State.sweepDone { s with sweepIndex := 0, sweepLine := s.sweepLine + 1 }
      else { s with sweepIndex := 0, sweepLine := s.sweepLine + 1 } := by
  rw [State.advanceSweep, if_neg (by omega)]
  rfl

/-- Settles O43: by the place of the cursor. -/
theorem sweepStepEnds : Obligations.SweepStepEnds := by
  intro s word stored ha hp hx written
  have hexec : exec .sweepWriteComplete s = .next written.advanceSweep.ended := by
    rw [exec_sweepWriteComplete ha hp hx, State.endGrant_eq_ended]
    rfl
  rw [hexec]
  refine ⟨fun hindex => ?_, fun hindex hline => ?_, fun hindex hline => ?_⟩
  · rw [State.advanceSweep, if_pos hindex]
  · rw [State.advanceSweep_of_last (s := written) hindex, if_neg (show ¬ written.sweepLine + 1 = written.memoryLines from hline.ne)]
  · rw [State.advanceSweep_of_last (s := written) hindex, show written.sweepLine + 1 = written.memoryLines from hline, if_pos rfl]
    rfl

/-! ### The take -/

/-- The map, the context and the table after a take, said once (R104, R120, R137). -/
theorem State.beginCopy_eq (s : State) (r : MigrationRequest) (target : Nat) :
    s.beginCopy r target = { s with
      slots := s.slots.set target (.migrating r.home (.request r.reason) (s.activeSlot r.home))
      copy := some (s.takenCopy r target)
      health := s.health.map fun place =>
        (place.map fun e => if e.line = s.translate r.home then { e with state := .moving } else e).filter fun e =>
          e.line != s.poolBase + target } := by
  have hhealth : (s.beginCopy r target).health =
      (s.health.map (Option.map fun e => if e.line = s.translate r.home then { e with state := .moving } else e)).map
        fun place => place.filter fun e => e.line != s.poolBase + target := rfl
  rw [List.map_map] at hhealth
  rw [State.beginCopy_changes, hhealth]
  rfl

/-- Settles O40: with the lowest FREE slot, and with none. -/
theorem takeOutcomes : Obligations.TakeOutcomes := by
  intro s r rest hdecision hcopy hmode hqueue source decided
  have hdue : s.takeDue = true := by simp [State.takeDue, hcopy, hmode, hqueue]
  have hexec : exec .take s = .next (decided s.takeHead) := by
    cases haward : s.award with
    | none =>
      have hafter : s.takeHead.award = none := by rw [State.takeHead_changes, ← haward]
      change execTake s = _
      rw [execTake_of_award_none s haward, hdue, if_pos rfl, State.arbitrate_eq_decidedIfFree _ hafter]
      simp only [decided, haward, if_true]
    | some a =>
      have hopen : s.decisionOpen = true := hdecision.resolve_left (by simp [haward])
      change execTake s = _
      rw [execTake_before_decision s haward hopen hdue]
      simp [decided, haward]
  rw [hexec]
  refine ⟨fun target hfree hlowest => ?_, fun hnone => ?_⟩
  · have hslot : s.freeSlot = some target := by
      obtain ⟨hlt, hget⟩ := List.getElem?_eq_some_iff.mp hfree
      rw [State.freeSlot, List.findIdx?_eq_some_iff_getElem]
      refine ⟨hlt, by simp [hget], fun j hj hslot => hlowest j hj ?_⟩
      rw [List.getElem?_eq_getElem (by omega), beq_iff_eq.mp hslot]
    simp only [State.takeHead, hqueue, hslot, State.beginCopy_eq]
    rfl
  · have hslot : s.freeSlot = none := by
      rw [State.freeSlot, List.findIdx?_eq_none_iff]
      intro slot hmem
      obtain ⟨j, hj⟩ := List.mem_iff_getElem?.mp hmem
      simp only [beq_eq_false_iff_ne]
      rintro rfl
      exact hnone j hj
    simp only [State.takeHead, hqueue, hslot]
    rfl

/-! ### The end of a copy step -/

/-- The context after a copy step, its counts as sums (R140 to R142). -/
theorem Copy.stepped_eq (c : Copy) (source : DecodeClass) :
    c.stepped source = { c with
      cursor := c.cursor + 1
      carried := c.carried + if source ∈ [.singleData, .singleCheck] then 1 else 0
      poisoned := c.poisoned + if source ∈ [.double, .multi, .poisoned] then 1 else 0 } := by
  cases source <;> rfl

/-- The commit, on the slots that it leaves (R106, R121, R146). -/
theorem State.commitCopy_eq {s : State} {c : Copy} {slots : List Slot}
    (hslots : (s.commitSlots c.target c.sourceSlot).slots = slots) :
    s.commitCopy c = State.append
      { s with
        slots := slots
        writeBacks := s.writeBacks.filter fun w => w.word / 8 != c.sourceLine
        health := s.health.map fun place => place.filter fun e => e.line != c.sourceLine
        copy := none }
      (.migrationDone c.home c.target c.sourceSlot c.carried c.poisoned) := by
  subst hslots
  unfold State.commitCopy State.commitSlots
  cases c.sourceSlot <;> rfl

/-- Settles O42: the cursor below its last word, and the eighth step's commit. -/
theorem copyStepEnds : Obligations.CopyStepEnds := by
  intro s c word stored source ha hp hx hc hpending carried poisoned
  have hexec : exec .copyWriteComplete s = .next ((s.writeCell word stored).copyStepEnds c source).ended := by
    rw [exec_copyWriteComplete ha hp hx hc, State.endGrant_eq_ended]
  rw [hexec]
  have hstep : (s.writeCell word stored).copyStepEnds c source =
      if c.cursor + 1 = 8 then (s.writeCell word stored).commitCopy (c.stepped source)
      else { s.writeCell word stored with copy := some (c.stepped source) } := by
    rw [State.copyStepEnds, if_neg (by simp [hpending])]
  rw [hstep, Copy.stepped_eq]
  refine ⟨fun hcursor => ?_, fun hcursor htarget => ?_⟩
  · rw [if_neg (by omega)]
    rfl
  · intro committed made
    rw [if_pos (by omega)]
    obtain ⟨hmade, hretired⟩ := State.commitSlots_slots (s := s.writeCell word stored) htarget
    refine ⟨fun hnone => ?_, fun r o p hsource hr => ?_⟩
    · rw [State.commitCopy_eq (slots := made) (by dsimp only; rw [hnone]; exact hmade)]
      rfl
    · rw [State.commitCopy_eq (slots := made.set r (.retired c.home o p))
        (by dsimp only; rw [hsource]; exact hretired r c.home o p hr)]
      rfl

end Sys2Proof.Machine
end

section
/-! SUPPORT. The end of every grant: the pending abort (O44) and QUIET (O45), from what each last access does. -/

namespace Sys2Proof.Machine

/-- QUIET, where QUIESCING has nothing left to wait for, after a report that changes neither (R167). -/
theorem State.quieted_append {t : State} (r : Report) (hcopy : t.copy = none) :
    (t.append r).quieted =
      if t.mode = .quiescing ∧ t.writeBacks = [] then State.append { t.append r with mode := .quiet } .quietReached
      else t.append r := by
  simp only [State.quieted, State.append_mode, State.append_copy, State.append_writeBacks, hcopy, true_and]

/-- Settles O44: the end of the grant after what its last access does, which leaves the copy, the slots and the mode. -/
theorem pendingAbortIsMade : Obligations.PendingAbortIsMade := by
  intro s c ha hc hpending aborted
  have hends (t : State) (hcopy : t.copy = s.copy) (hslots : t.slots = s.slots) (hmode : t.mode = s.mode) :
      t.ended = aborted t := by
    rw [State.ended_of_pending t (hcopy.trans hc) hpending, State.aborted, State.quieted_append _ rfl, hslots]
    simp only [aborted, hmode]
    split <;> rfl
  refine ⟨fun hp => ⟨fun word stored source hx => ?_, fun r hr => ⟨fun word stored hx hnot => ?_, fun word stored hx => ?_,
    fun word stored hx => ?_, fun word changed hx => ?_, fun word changed data hx hk => ?_⟩⟩, fun x hp hx => ?_⟩
  · rw [exec_copyWriteComplete ha hp hx hc, State.endGrant_eq_ended, State.copyStepEnds, if_pos hpending]
    rw [hends]
    · rfl
    all_goals rfl
  · have hnone : ∀ c', s.copy = some c' → ¬ (word / 8 = c'.sourceLine ∧ word % 8 < c'.cursor) := by
      intro c' hc'
      cases hc.symm.trans hc'
      exact hnot
    rw [((hostWriteEnds s r word stored ha hp hr).1 hx).1 hnone, hends]
    all_goals rfl
  · rw [(hostWriteEnds s r word stored ha hp hr).2 hx, hends]
    all_goals rfl
  · rw [quietReadRepairsInline.2 s r word stored ha hp hx hr, hends]
    all_goals rfl
  · intro found d answered
    refine ⟨fun hcls => ?_, fun hcls => ?_, fun cls herror hcorrected hquiet hgranted => ?_,
      fun cls herror huncorrected => ?_⟩
    · rw [(cleanReadAnswers s r word changed ha hp hx hr hcls).2.2, hends]
      all_goals simp
    · rw [(poisonedReadRefused s r word changed ha hp hx hr hcls).2.2, hends]
      all_goals simp
    · rw [correctedReadQueuesWriteBack s r word changed cls ha hp hx hr hquiet hgranted herror hcorrected, hends]
      all_goals simp
    · rw [(uncorrectableReadReported s r word changed cls ha hp hx hr herror huncorrected).2.2, hends]
      all_goals simp
  · intro found refused own
    have hrefused := (mergeIsRefused s r word changed data ha hp hx hr hk)
    refine ⟨fun hcls => ?_, fun cls herror huncorrected => ?_⟩
    · rw [(hrefused ((decode_flag_iff _).mpr (.inl hcls))).2.2]
      simp only [show (decode (s.readCells word changed).1).cls = .poisoned from hcls]
      rw [hends]
      all_goals simp
    · rcases cls_of_error herror with ⟨-, rfl⟩ | ⟨-, rfl⟩ | ⟨hcls, rfl⟩ | ⟨hcls, rfl⟩
      · cases huncorrected
      · cases huncorrected
      · rw [(hrefused ((decode_flag_iff _).mpr (.inr (.inl hcls)))).2.2]
        simp only [show (decode (s.readCells word changed).1).cls = .double from hcls]
        rw [hends]
        all_goals simp
      · rw [(hrefused ((decode_flag_iff _).mpr (.inr (.inr hcls)))).2.2]
        simp only [show (decode (s.readCells word changed).1).cls = .multi from hcls]
        rw [hends]
        all_goals simp
  · rw [abandonedAccessEnds s x ha hp hx, hends]
    all_goals rfl

/-- Settles O45: the end of every grant in QUIESCING with no abort pending. -/
theorem quietIsReached : Obligations.QuietIsReached := by
  intro s ha hm ends superseded
  have hends (t : State) (hmode : t.mode = .quiescing) (hpending : ∀ c, t.copy = some c → c.abortPending = false) :
      t.ended = ends t := by
    have hall : t.copy.all (fun c => !c.abortPending) = true := by
      cases hc : t.copy with
      | none => rfl
      | some c => simp [hpending c hc]
    rw [State.ended_of_not_pending t hall, State.quieted]
    simp only [ends, hmode, true_and]
    split <;> rfl
  refine ⟨fun hpending => ?_, fun hpending hp => ⟨fun w rest word stored hx hqueue => ?_, fun r word stored hr hx hnot => ?_,
    fun word stored hx => ?_, fun c word stored source slots hx hc hcursor htarget => ?_⟩⟩
  · rw [State.endGrant_eq_ended, hends s hm hpending]
  · rw [drainWriteEnds s w rest word stored ha hp hx hqueue, hends]
    · exact hm
    · exact hpending
  · rw [((hostWriteEnds s r word stored ha hp hr).1 hx).1 hnot, hends]
    · exact hm
    · exact hpending
  · rw [(patrolStepEnds s word ha hp).2 stored hx, hends]
    · simpa using hm
    · simpa using hpending
  · intro made hslots
    obtain ⟨-, hcommit⟩ := copyStepEnds s c word stored source ha hp hx hc (hpending c hc)
    obtain ⟨hnone, hsome⟩ := hcommit hcursor htarget
    rcases hslots with ⟨hsource, rfl⟩ | ⟨r, o, p, hsource, hr, rfl⟩
    · refine (hnone hsource).trans (congrArg Host.Outcome.next (hends _ ?_ ?_))
      · simpa using hm
      · simp
    · refine (hsome r o p hsource hr).trans (congrArg Host.Outcome.next (hends _ ?_ ?_))
      · simpa using hm
      · simp

end Sys2Proof.Machine
end

section
/-! SUPPORT. Health events: what becomes of one in the table (O46), and the migration that it may ask for (O47). -/

namespace Sys2Proof.Machine

/-! ### The entry for a line -/

theorem State.healthLines_eq_reduceOption (s : State) :
    s.healthLines = (s.health.map (Option.map HealthEntry.line)).reduceOption := by
  rw [State.healthLines, List.reduceOption, List.filterMap_map]
  rfl

/-- No two places hold one line (R94), place by place. -/
theorem State.place_of_line {s : State} (hnodup : s.healthLines.Nodup) {i j : Nat} {e x : HealthEntry}
    (hi : s.health[i]? = some (some e)) (hj : s.health[j]? = some (some x)) (hline : x.line = e.line) : j = i := by
  rw [State.healthLines_eq_reduceOption, nodup_reduceOption_iff] at hnodup
  exact hnodup j i e.line (by rw [List.getElem?_map, hj, ← hline]; rfl) (by rw [List.getElem?_map, hi]; rfl)

theorem State.healthEntry_of_unlisted {s : State} {line : Nat}
    (h : ∀ (i : Nat) (e : HealthEntry), s.health[i]? = some (some e) → e.line ≠ line) : s.healthEntry line = none := by
  rw [State.healthEntry_eq_none_iff, mem_linesOf]
  rintro ⟨e, hmem, hline⟩
  obtain ⟨i, hi⟩ := List.mem_iff_getElem?.mp hmem
  exact h i e hi hline

theorem holdsLine_iff (line : Nat) (place : Option HealthEntry) :
    holdsLine line place = true ↔ ∃ e, place = some e ∧ e.line = line := by
  cases place <;> simp [holdsLine]

theorem State.healthEntry_of_listed {s : State} {i : Nat} {e : HealthEntry} (hi : s.health[i]? = some (some e))
    (hnodup : s.healthLines.Nodup) : s.healthEntry e.line = some e := by
  unfold State.healthEntry
  cases hfind : s.health.find? (holdsLine e.line) with
  | none =>
    have := List.find?_eq_none.mp hfind _ (List.mem_of_getElem? hi)
    exact absurd ((holdsLine_iff _ _).mpr ⟨e, rfl, rfl⟩) this
  | some place =>
    obtain ⟨x, rfl, hline⟩ := (holdsLine_iff _ _).mp (List.find?_some hfind)
    obtain ⟨j, hj⟩ := List.mem_iff_getElem?.mp (List.mem_of_find?_eq_some hfind)
    cases State.place_of_line hnodup hi hj hline
    rw [hi] at hj
    cases hj
    rfl

/-- A change of the one entry for a line is a change of its place. -/
theorem State.updateHealth_of_listed {s : State} {i : Nat} {e : HealthEntry} (hi : s.health[i]? = some (some e))
    (hnodup : s.healthLines.Nodup) (f : HealthEntry → HealthEntry) :
    s.updateHealth e.line f = { s with health := s.health.set i (some (f e)) } := by
  have hmap : s.health.map (Option.map fun x => if x.line = e.line then f x else x) = s.health.set i (some (f e)) := by
    apply List.ext_getElem?
    intro j
    rw [List.getElem?_map, List.getElem?_set]
    split
    · rename_i hij
      subst hij
      rw [hi, if_pos (List.getElem?_eq_some_iff.mp hi).1]
      simp
    · rename_i hij
      cases hj : s.health[j]? with
      | none => rfl
      | some place =>
        cases place with
        | none => rfl
        | some x =>
          have hne : x.line ≠ e.line := fun hline => hij (State.place_of_line hnodup hi hj hline).symm
          simp [hne]
  rw [State.updateHealth, hmap]

/-! ### The place for a new entry -/

theorem emptyPlace_of_lowest {places : List (Option HealthEntry)} {i : Nat} (hi : places[i]? = some none)
    (hlowest : ∀ j < i, places[j]? ≠ some none) : emptyPlace places = some i := by
  obtain ⟨hlt, hget⟩ := List.getElem?_eq_some_iff.mp hi
  rw [emptyPlace, List.findIdx?_eq_some_iff_getElem]
  refine ⟨hlt, by simp [hget], fun j hj hnone => hlowest j hj ?_⟩
  rw [List.getElem?_eq_getElem (by omega), Option.isNone_iff_eq_none.mp hnone]

theorem emptyPlace_of_full {places : List (Option HealthEntry)} (h : ∀ i : Nat, places[i]? ≠ some none) :
    emptyPlace places = none := by
  rw [emptyPlace, List.findIdx?_eq_none_iff]
  intro place hmem
  obtain ⟨i, hi⟩ := List.mem_iff_getElem?.mp hmem
  cases place with
  | none => exact absurd hi (h i)
  | some e => rfl

/-- The best victim so far stays the victim where no later one goes before it. -/
theorem victimFrom_kept {pass : Pass} {best : Nat × HealthEntry} (places : List (Option HealthEntry)) (place : Nat)
    (h : ∀ (k : Nat) (x : HealthEntry), places[k]? = some (some x) → x.state = .watch → x.goesBefore pass best.2 = false) :
    victimFrom pass place places (some best) = some best := by
  induction places generalizing place with
  | nil => rfl
  | cons head rest ih =>
    have tail := ih (place + 1) fun k x hx => h (k + 1) x (by simpa using hx)
    cases head with
    | none => exact tail
    | some x =>
      unfold victimFrom
      split
      · rename_i hwatch
        simp only [h 0 x rfl hwatch, Bool.false_eq_true, if_false]
        exact tail
      · exact tail

/-- The victim: it goes before every WATCH entry at a lower place, and none at a higher place goes before it (R98). -/
theorem victimFrom_found {pass : Pass} {e : HealthEntry} (hwatch : e.state = .watch) (places : List (Option HealthEntry))
    (place k : Nat) (best : Option (Nat × HealthEntry)) (hk : places[k]? = some (some e))
    (hbest : ∀ b, best = some b → e.goesBefore pass b.2 = true)
    (hbefore : ∀ (j : Nat) (x : HealthEntry), j < k → places[j]? = some (some x) → x.state = .watch →
      e.goesBefore pass x = true)
    (hafter : ∀ (j : Nat) (x : HealthEntry), k < j → places[j]? = some (some x) → x.state = .watch →
      x.goesBefore pass e = false) : victimFrom pass place places best = some (place + k, e) := by
  induction places generalizing place k best with
  | nil => cases hk
  | cons head rest ih =>
    cases k with
    | zero =>
      cases Option.some.inj hk
      have kept := victimFrom_kept (best := (place, e)) rest (place + 1) fun j x hx => hafter (j + 1) x (by omega)
        (by simpa using hx)
      unfold victimFrom
      rw [if_pos hwatch]
      cases best with
      | none => exact kept
      | some b =>
        simp only [hbest b rfl, if_true]
        exact kept
    | succ k =>
      have tail (best' : Option (Nat × HealthEntry)) (hbest' : ∀ b, best' = some b → e.goesBefore pass b.2 = true) :
          victimFrom pass (place + 1) rest best' = some (place + (k + 1), e) := by
        rw [ih (place + 1) k best' (by simpa using hk) hbest'
          (fun j x hj hx => hbefore (j + 1) x (by omega) (by simpa using hx))
          (fun j x hj hx => hafter (j + 1) x (by omega) (by simpa using hx))]
        congr 2
        omega
      cases head with
      | none => exact tail best hbest
      | some x =>
        unfold victimFrom
        split
        · rename_i hx
          have hfirst := hbefore 0 x (by omega) rfl hx
          cases best with
          | none => exact tail _ fun b hb => by cases hb; exact hfirst
          | some b =>
            refine tail _ fun b' hb' => ?_
            split at hb'
            · cases hb'; exact hfirst
            · cases hb'; exact hbest b rfl
        · exact tail best hbest

theorem victimFrom_none {pass : Pass} (places : List (Option HealthEntry)) (place : Nat)
    (h : ∀ (k : Nat) (x : HealthEntry), places[k]? = some (some x) → x.state ≠ .watch) :
    victimFrom pass place places none = none := by
  induction places generalizing place with
  | nil => rfl
  | cons head rest ih =>
    have tail := ih (place + 1) fun k x hx => h (k + 1) x (by simpa using hx)
    cases head with
    | none => exact tail
    | some x =>
      unfold victimFrom
      rw [if_neg (h 0 x rfl)]
      exact tail

theorem HealthEntry.goesBefore_iff (pass : Pass) (e x : HealthEntry) :
    e.goesBefore pass x = true ↔ e.count < x.count ∨ (e.count = x.count ∧ x.age pass < e.age pass) := by
  simp [HealthEntry.goesBefore]

/-! ### Recording -/

theorem State.recordHealth_listed {s : State} {ev : HealthEvent} {e : HealthEntry} (h : s.healthEntry ev.line = some e) :
    s.recordHealth ev = (s.updateHealth ev.line fun e => e.recordEvent ev s.patrol.pass, []) := by
  simp only [State.recordHealth, h]

theorem State.recordHealth_new {s : State} {ev : HealthEvent} {i : Nat} (h : s.healthEntry ev.line = none)
    (hi : s.placeForNew = some i) :
    s.recordHealth ev = ({ s with health := s.health.set i (some (ev.newEntry s.patrol.pass)) },
      if ev.cls.corrected then [.newWeakLine ev.line ev.index (ev.cls == .singleCheck) ev.source] else []) := by
  simp only [State.recordHealth, h, hi]

theorem State.recordHealth_full {s : State} {ev : HealthEvent} (h : s.healthEntry ev.line = none)
    (hi : s.placeForNew = none) : s.recordHealth ev = (s, [.healthFull ev.line]) := by
  simp only [State.recordHealth, h, hi]

/-- Settles O46: in the line's own place, in the lowest empty one, in the victim's, or not at all. -/
theorem healthEventsAreRecorded : Obligations.HealthEventsAreRecorded := by
  intro s ev pass fresh weak created unlisted full
  refine ⟨State.healthEntry_of_unlisted, fun i e hi hline hnodup => ?_, fun i e hi hline hnodup => ?_,
    fun i hnew hi hlowest => ?_, fun i e hnew hfull hi hwatch hbeats => ?_, fun hnew hfull hnone => ?_⟩
  · rw [← hline]
    exact State.healthEntry_of_listed hi hnodup
  · have hentry : s.healthEntry ev.line = some e := by
      rw [← hline]
      exact State.healthEntry_of_listed hi hnodup
    rw [State.recordHealth_listed hentry, ← hline, State.updateHealth_of_listed hi hnodup, HealthEntry.recordEvent]
    have hcount : min 255 (e.count + 1) = if e.count < 255 then e.count + 1 else 255 := by split_ifs <;> omega
    rw [hcount]
  · exact State.recordHealth_new (State.healthEntry_of_unlisted hnew) (by
      rw [State.placeForNew, emptyPlace_of_lowest hi hlowest])
  · refine State.recordHealth_new (State.healthEntry_of_unlisted hnew) ?_
    rw [State.placeForNew, emptyPlace_of_full hfull]
    have hvictim := victimFrom_found (pass := pass) hwatch s.health 0 i none hi nofun
      (fun j x hj hx hxwatch => by
        rw [HealthEntry.goesBefore_iff]
        rcases hbeats j x hx hxwatch (by omega) with h | ⟨h, h' | ⟨-, h'⟩⟩
        · exact .inl h
        · exact .inr ⟨h, h'⟩
        · omega)
      (fun j x hj hx hxwatch => by
        rw [Bool.eq_false_iff, Ne, HealthEntry.goesBefore_iff]
        unfold HealthEntry.age
        have := hbeats j x hx hxwatch (by omega)
        omega)
    change evictionPlace s.patrol.pass s.health = _
    rw [evictionPlace, hvictim, Nat.zero_add]
    rfl
  · refine State.recordHealth_full (State.healthEntry_of_unlisted hnew) ?_
    rw [State.placeForNew, emptyPlace_of_full hfull]
    change evictionPlace s.patrol.pass s.health = _
    rw [evictionPlace, victimFrom_none _ _ hnone]
    rfl

/-! ### The migration request -/

theorem State.intakeAnswer_eq (s : State) (home : Nat) :
    s.intakeAnswer home =
      if home ∈ s.migrations.map MigrationRequest.home ∨ home ∈ (s.copy.map Copy.home).toList then .duplicate
      else if 4 ≤ s.migrations.length then .queueFull
      else .accepted := by
  have hheld : (s.migrations.any (fun r => r.home == home) || s.copy.any (fun c => c.home == home)) = true ↔
      home ∈ s.migrations.map MigrationRequest.home ∨ home ∈ (s.copy.map Copy.home).toList := by
    cases s.copy with
    | none => simp
    | some c => simp [@eq_comm _ home]
  unfold State.intakeAnswer
  simp only [hheld]

/-- The two conditions of a request (R100): the event's entry in WATCH at the threshold, or an uncorrectable event. -/
theorem State.asks_iff (s : State) (ev : HealthEvent) :
    (s.thresholdMet ev.line || s.uncorrectableMet ev) = true ↔
      (∃ e, s.healthEntry ev.line = some e ∧ e.state = .watch ∧ (s.settings.migrateThreshold ≤ e.count ∨
        (ev.cls.corrected = false ∧ s.settings.migrateOnUncorrectable = true))) ∨
      (s.healthEntry ev.line = none ∧ ev.cls.corrected = false ∧ s.settings.migrateOnUncorrectable = true) := by
  unfold State.thresholdMet State.uncorrectableMet
  cases s.healthEntry ev.line with
  | none => simp
  | some e =>
    simp only [Option.any_some, Option.all_some, Bool.or_eq_true, Bool.and_eq_true, beq_iff_eq, decide_eq_true_eq,
      Bool.not_eq_true', Option.some.injEq, reduceCtorEq, false_and, or_false]
    constructor
    · rintro (⟨hw, hcount⟩ | ⟨⟨hc, hon⟩, hw⟩)
      · exact ⟨e, rfl, hw, .inl hcount⟩
      · exact ⟨e, rfl, hw, .inr ⟨hc, hon⟩⟩
    · rintro ⟨x, rfl, hw, hcount | ⟨hc, hon⟩⟩
      · exact .inl ⟨hw, hcount⟩
      · exact .inr ⟨⟨hc, hon⟩, hw⟩

/-- Where an event asks, it is its being uncorrectable that the second condition turns on. -/
theorem State.uncorrectableMet_of_asks {s : State} {ev : HealthEvent}
    (h : (s.thresholdMet ev.line || s.uncorrectableMet ev) = true) :
    s.uncorrectableMet ev = true ↔ ev.cls.corrected = false ∧ s.settings.migrateOnUncorrectable = true := by
  have hentry : (s.healthEntry ev.line).all (fun e => e.state == .watch) = true := by
    rcases (s.asks_iff ev).mp h with ⟨e, he, hw, -⟩ | ⟨hnone, -⟩
    · simp [he, hw]
    · simp [hnone]
  simp [State.uncorrectableMet, hentry]

/-! ### The reports of one read -/

theorem State.appendForRead_of_none {s : State} {own : Report} {table : List Report} (h : table = []) :
    s.appendForRead own table = s.append own := by
  subst h
  rfl

/-- Which report comes first is open, but one of the two orders it is (assumption 5). -/
theorem State.appendForRead_of_some {s : State} {own : Report} {table : List Report} (h : table ≠ []) :
    s.appendForRead own table = (table.foldl State.append { s with freeIndex := s.freeIndex + 1 }).append own ∨
      s.appendForRead own table = table.foldl State.append ((State.append { s with freeIndex := s.freeIndex + 1 } own)) := by
  cases table with
  | nil => exact absurd rfl h
  | cons r rest =>
    by_cases h : Config.tableReportsFirst s.freeIndex = true
    · exact .inl (if_pos h)
    · exact .inr (if_neg h)

/-- Settles O47: by the two conditions, then by the intake's answer. -/
theorem migrationIsRequested : Obligations.MigrationIsRequested := by
  intro s ev recorded t entry worse asks held marked
  have hsettings : t.settings = s.settings := by
    change (s.recordHealth ev).1.settings = _
    rw [State.recordHealth_changes]
  have hslots : t.slots = s.slots := by
    change (s.recordHealth ev).1.slots = _
    rw [State.recordHealth_changes]
  have hqueue : t.migrations = s.migrations := by
    change (s.recordHealth ev).1.migrations = _
    rw [State.recordHealth_changes]
  have hcopy : t.copy = s.copy := by
    change (s.recordHealth ev).1.copy = _
    rw [State.recordHealth_changes]
  have hbase : t.poolBase = s.poolBase := by rw [State.poolBase, State.memoryLines, hsettings]; rfl
  have hasks : (t.thresholdMet ev.line || t.uncorrectableMet ev) = true ↔ asks := by
    rw [State.asks_iff, hsettings]
  have hevent : s.healthEvent ev = ((t.requestTest ev).1, recorded.2 ++ (t.requestTest ev).2) := rfl
  refine ⟨fun hnot => ?_, fun hyes home reason hfor => ?_, fun word cls source own hev => ?_⟩
  · have htest : t.requestTest ev = (t, []) := by
      rw [State.requestTest, if_neg (fun h => hnot (hasks.mp h))]
    rw [hevent, htest, List.append_nil]
  · have hmet := hasks.mpr hyes
    have hrequest : t.requestFor ev = some (home, reason) := by
      have hworse := State.uncorrectableMet_of_asks hmet
      rw [hsettings] at hworse
      rcases hfor with ⟨hlow, rfl, hbad, hgood⟩ | ⟨hhigh, rfl, o, p, hslot⟩
      · rw [State.requestFor, hbase, if_pos hlow]
        by_cases hw : worse
        · rw [if_pos (hworse.mpr hw), hbad hw]
        · rw [if_neg (fun h => hw (hworse.mp h)), hgood hw]
      · rw [State.requestFor, hbase, if_neg (by omega), State.homeOfSpare, hbase, if_pos hhigh, hslots, hslot]
        rfl
    have htest : t.requestTest ev = t.requestMigration ev.line home reason := by
      rw [State.requestTest, if_pos hmet, hrequest]
    have hanswer := t.intakeAnswer_eq home
    rw [hqueue, hcopy] at hanswer
    refine ⟨fun hheld => ?_, fun hfresh hroom => ?_, fun hfresh hfull => ?_⟩
    · rw [if_pos hheld] at hanswer
      have : t.requestMigration ev.line home reason = (t, []) := by simp only [State.requestMigration, hanswer]
      rw [hevent, htest, this, List.append_nil]
    · rw [if_neg hfresh, if_neg (by omega)] at hanswer
      have : t.requestMigration ev.line home reason = (marked
          { t with migrations := s.migrations ++ [{ home := home, reason := reason }] }
          (fun e => { e with state := .queued, deferred := false }), []) := by
        simp only [State.requestMigration, State.intake, hanswer, hqueue]
        rfl
      rw [hevent, htest, this, List.append_nil]
    · rw [if_neg hfresh, if_pos hfull] at hanswer
      have hdefer : t.requestMigration ev.line home reason = t.deferRequest ev.line home := by
        simp only [State.requestMigration, hanswer]
      rw [hevent, htest, hdefer, State.deferRequest]
      cases hentry : t.healthEntry ev.line with
      | none => simp only [show entry = none from hentry]
      | some e =>
        simp only [show entry = some e from hentry]
        split
        · rw [List.append_nil]
        · rfl
  · subst hev
    refine ⟨rfl, fun hnone => ?_, fun hsome => ?_⟩
    · exact State.appendForRead_of_none hnone
    · exact State.appendForRead_of_some hsome

end Sys2Proof.Machine
end

section
/-! SUPPORT. Time and resets (O48, O49, O50), and the edges of MCS (O51). -/

namespace Sys2Proof.Machine

/-! ### The interval timer -/

theorem State.timerRuns_iff (s : State) :
    s.timerRuns = true ↔ s.mode = .normal ∧ 1 ≤ s.settings.patrolInterval := by
  simp [State.timerRuns]

theorem State.expiryDue_iff (s : State) :
    s.expiryDue = true ↔ s.mode = .normal ∧ s.patrol.timer + 1 = s.settings.patrolInterval := by
  simp only [State.expiryDue, Bool.and_eq_true, State.timerRuns_iff, beq_iff_eq]
  constructor
  · rintro ⟨⟨hm, -⟩, he⟩
    exact ⟨hm, he⟩
  · rintro ⟨hm, he⟩
    exact ⟨⟨hm, by omega⟩, he⟩

theorem State.expire_eq {s : State} (ha : s.award = none) :
    s.expire = if s.patrol.debt < s.settings.debtLimit then
        State.decidedIfFree { s with patrol := { s.patrol with timer := 0, debt := s.patrol.debt + 1 } }
      else { s with patrol := { s.patrol with timer := 0 } } := by
  unfold State.expire
  split
  · exact State.arbitrate_eq_decidedIfFree _ ha
  · rfl

/-- Settles O48: the tick by whether the timer runs and whether it expires. -/
theorem ticksCount : Obligations.TicksCount := by
  intro s ha
  have hsettled := s.settled_of_award_none ha
  refine ⟨fun hheld => ?_, fun hm hon hne => ?_, fun hm he c hc => ?_⟩
  · have hstill : ¬ s.timerRuns = true := by
      rw [State.timerRuns_iff]
      rintro ⟨hm, hon⟩
      rcases hheld with h | h
      · exact h hm
      · omega
    have hdue : ¬ s.expiryDue = true := fun h => hstill (by simp_all [State.expiryDue])
    simp only [exec, execTimebaseTick, hsettled, if_neg hdue, if_neg hstill]
  · have hdue : ¬ s.expiryDue = true := fun h => hne (s.expiryDue_iff.mp h).2
    simp only [exec, execTimebaseTick, hsettled, if_neg hdue, if_pos (s.timerRuns_iff.mpr ⟨hm, hon⟩)]
  · have hdue := s.expiryDue_iff.mpr ⟨hm, he⟩
    rw [← State.expire_eq ha]
    rcases List.mem_pair.mp hc with rfl | rfl
    · simp only [exec, execTimebaseTick, hsettled, if_pos hdue]
    · simp only [exec, execIntervalExpiry, hsettled, if_pos hdue]

/-! ### The warm reset -/

/-- An entry after a warm reset: QUEUED and MOVING return to WATCH (R112). -/
def HealthEntry.afterWarmReset (e : HealthEntry) : HealthEntry :=
  if e.state = .queued ∨ e.state = .moving then e.backToWatch else e

/-- The abort of a copy returns its source's entry to WATCH, which the warm reset does too (R107, R112). -/
theorem State.healthWarmReset_dropMigrations (s : State) :
    s.dropMigrations.healthWarmReset.health = s.health.map fun place => place.map HealthEntry.afterWarmReset := by
  unfold State.dropMigrations
  cases s.copy with
  | none => rfl
  | some c =>
    change (s.health.map _).map _ = _
    rw [List.map_map]
    refine List.map_congr_left fun place _ => ?_
    cases place with
    | none => rfl
    | some e =>
      change some (HealthEntry.afterWarmReset (if e.line = c.sourceLine then
        (if e.state = .moving then e.backToWatch else e) else e)) = some e.afterWarmReset
      by_cases hline : e.line = c.sourceLine
      · by_cases hstate : e.state = .moving
        · simp [HealthEntry.afterWarmReset, HealthEntry.backToWatch, hline, hstate]
        · rw [if_pos hline, if_neg hstate]
      · rw [if_neg hline]

theorem State.dropMigrations_eq (s : State) :
    s.dropMigrations = { s with
      migrations := []
      copy := none
      slots := s.dropMigrations.slots
      health := s.dropMigrations.health } := by
  cases hcopy : s.copy with
  | none => simp only [State.dropMigrations, hcopy]
  | some c => simp only [State.dropMigrations, hcopy]; rfl

/-- What a warm reset leaves in every block but the Report Queue. -/
theorem State.warmBlocks_eq (s : State) :
    s.warmBlocks = { s with
      strobeHeld := false
      host := HostPort.abandon
      port := s.portAfterWarmReset
      starvation := 0
      writeBacks := []
      migrations := []
      copy := none
      slots := s.dropMigrations.slots
      patrol := { s.patrol with debt := 0, timer := 0 }
      health := s.health.map fun place => place.map HealthEntry.afterWarmReset
      mode := s.mode.afterWarmReset
      freeIndex := s.freeIndexAfterReset } := by
  have hhealth := s.healthWarmReset_dropMigrations
  unfold State.warmBlocks
  rw [← hhealth, s.dropMigrations_eq]
  rfl

/-- Settles O49: the blocks' part, then the reports. -/
theorem warmResetClears : Obligations.WarmResetClears := by
  intro s ha hreset hporeset cleared after
  have hexec : exec .hresetAssert s = .next (State.warmReset { s with hreset := true }) := by
    simp only [exec, execHresetAssert, s.settled_of_award_none ha, hreset, hporeset, Bool.or_self, Bool.false_eq_true,
      if_false]
  have hslots : (State.dropMigrations { s with hreset := true }).slots =
      match s.copy with
      | some c => s.slots.set c.target .free
      | none => s.slots := by
    unfold State.dropMigrations
    cases s.copy <;> rfl
  have hmode : s.mode.afterWarmReset = match s.mode with
      | .uninit | .sweeping => .uninit
      | .normal => .normal
      | .quiescing | .quiet => .quiet := by
    cases s.mode <;> rfl
  have hblocks (begun : Bool) (drawn : Nat) (hbegun : s.accessBegun = begun)
      (hdrawn : s.freeIndexAfterReset = s.freeIndex + drawn) :
      State.warmBlocks { s with hreset := true } = cleared begun drawn := by
    have hport : s.portAfterWarmReset = if s.port.holder = .free then s.port
        else if begun then { s.port with gap := false, abandoned := true } else MemoryPort.free := by
      rw [State.portAfterWarmReset, hbegun]
    rw [State.warmBlocks_eq, hslots]
    change State.mk .. = State.mk ..
    congr 1
  have hall (begun : Bool) (drawn : Nat) (hbegun : s.accessBegun = begun)
      (hdrawn : s.freeIndexAfterReset = s.freeIndex + drawn) :
      exec .hresetAssert s = .next (after (cleared begun drawn)) := by
    rw [hexec, ← hblocks begun drawn hbegun hdrawn]
    rfl
  refine ⟨fun hgap => ?_, fun hgap => ?_⟩
  · obtain ⟨hb, hd⟩ := s.begun_of_no_gap hgap
    exact hall true 0 hb hd
  · obtain ⟨hb, hd⟩ := s.begun_of_gap hgap
    exact ⟨_, hall _ 1 hb hd⟩

/-! ### The cold reset -/

theorem getCell_of_allAbove {bound a : Nat} {cells : List (Nat × StoredWord)} (h : allAbove bound cells)
    (ha : a ≤ bound) : getCell cells a = none := by
  induction cells with
  | nil => rfl
  | cons x rest ih =>
    obtain ⟨k, v⟩ := x
    have hk : bound < k := h (k, v) (List.mem_cons_self ..)
    rw [getCell, if_neg (by omega)]
    exact ih fun c hc => h c (List.mem_cons_of_mem _ hc)

/-- In the array's canonical form a word stands once, so that dropped it has no contents. -/
theorem getCell_dropCell_self {cells : List (Nat × StoredWord)} (a : Nat) (h : cellsWf cells = true) :
    getCell (dropCell cells a) a = none := by
  induction cells with
  | nil => rfl
  | cons x rest ih =>
    obtain ⟨k, v⟩ := x
    obtain ⟨habove, hrest⟩ := (cellsWf_cons k v rest).mp h
    unfold dropCell
    split
    · rename_i hk
      exact getCell_of_allAbove habove (by omega)
    · rename_i hk
      rw [getCell, if_neg hk]
      exact ih hrest

/-- A cold reset takes its contents from the word of an access in progress, and from no other (R42, R58). -/
theorem State.getCell_cellsAfterColdReset {s : State} (h : s.ArraySound) (a : Nat) :
    getCell s.cellsAfterColdReset a =
      if s.accessBegun = true ∧ ∃ x, s.port.access = some x ∧ x.word = a then none else getCell s.cells a := by
  unfold State.cellsAfterColdReset
  cases haccess : s.port.access with
  | none => simp
  | some x =>
    by_cases hbegun : s.accessBegun = true
    · by_cases hword : x.word = a
      · subst hword
        simpa [hbegun] using getCell_dropCell_self _ h
      · simpa [hbegun, hword] using getCell_dropCell_ne _ hword
    · simp [hbegun]

/-- Settles O50: the three ways to a cold reset all make it, on a state that differs in the levels of the lines alone. -/
theorem coldResetClears : Obligations.ColdResetClears := by
  intro s ha hsound
  have hsettled := s.settled_of_award_none ha
  refine ⟨s.accessBegun, s.cellsAfterColdReset, fun hgap => (s.begun_of_no_gap hgap).1,
    State.getCell_cellsAfterColdReset hsound, ?_⟩
  intro cold
  have hdue {f : Frame} (hcode : f.command = 0x3C#8) (hstate : f.state = .response ∨ f.state = .trailing) :
      f.resetDue = true := by
    rcases hstate with h | h <;> simp [Frame.resetDue, hcode, h, commandCode]
  have hraise {t : State} (hcells : t.cells = s.cells) (hport : t.port = s.port) (hfree : t.freeIndex = s.freeIndex)
      (hlines : t.hstb = s.hstb ∧ t.hreset = s.hreset ∧ t.poreset = s.poreset ∧ t.pending = s.pending)
      (h : t.frame.resetDue = true) : t.raiseMcs = cold s.poreset false := by
    obtain ⟨hstb, hhreset, hporeset, hpending⟩ := hlines
    rw [State.raiseMcs, if_pos h, State.coldReset, State.cellsAfterColdReset, State.freeIndexAfterReset,
      State.accessBegun]
    simp only [hcells, hport, hfree, hstb, hhreset, hporeset, hpending]
    rfl
  refine ⟨?_, fun hmcs hawaits => ?_, fun hmcs hcode hstate c hc => ?_⟩
  · rw [exec, execPoresetAssert, hsettled]
    rfl
  · have hserve : s.serve (commandCode .resetCold) [] s.runResetCold =
        { s with frame := Frame.executed 0x3C#8 [] [0x01#8] } := by
      rw [State.serve, if_pos (show s.frame.awaits [commandCode .resetCold] = true from hawaits)]
      rfl
    simp only [exec, execResetCold, hsettled, hserve]
    rw [if_pos (by rw [hmcs]; rfl), hraise (t := { s with frame := Frame.executed 0x3C#8 [] [0x01#8] }) rfl rfl rfl ⟨rfl, rfl, rfl, rfl⟩ rfl]
  · have hframe := hdue hcode hstate
    have hserve : s.serve (commandCode .resetCold) [] s.runResetCold = s := by
      rw [State.serve, if_neg]
      rcases hstate with h | h <;> simp [Frame.awaits, h]
    have hcold := hraise rfl rfl rfl ⟨rfl, rfl, rfl, rfl⟩ hframe
    rcases List.mem_pair.mp hc with rfl | rfl
    · simp only [exec, execFrameEnd, hsettled, hmcs, if_true, hcold]
    · simp only [exec, execResetCold, hsettled, hserve, hmcs, hframe, Bool.and_self, if_true, hcold]

/-! ### The edges of MCS -/

theorem Frame.resetDue_iff (f : Frame) :
    f.resetDue = true ↔ f.command = 0x3C#8 ∧ (f.state = .response ∨ f.state = .trailing) := by
  simp [Frame.resetDue, commandCode]

/-- Settles O51: the fall of MCS by its level and PORESET's, the rise by its level and the frame. -/
theorem framesBeginAndEnd : Obligations.FramesBeginAndEnd := by
  intro s ha
  have hsettled := s.settled_of_award_none ha
  refine ⟨fun hmcs hporeset => ?_, fun hnone => ?_, fun hmcs hkeeps => ?_, fun hmcs => ?_⟩
  · simp only [exec, execFrameBegin, hsettled, hmcs, hporeset, Bool.or_self, Bool.false_eq_true, if_false]
    rfl
  · have : (s.mcs || s.poreset) = true := by simpa using hnone
    simp only [exec, execFrameBegin, hsettled, if_pos this]
  · have : ¬ s.frame.resetDue = true := fun h => hkeeps (s.frame.resetDue_iff.mp h)
    simp only [exec, execFrameEnd, hsettled, hmcs, if_true, State.raiseMcs, if_neg this]
    rfl
  · simp only [exec, execFrameEnd, hsettled, hmcs, Bool.false_eq_true, if_false]

end Sys2Proof.Machine
end

section
/-! SUPPORT. The management port's bytes and rows: the numbers that bytes spell, the command that a byte names, and the row
that stands for a command. With them a row that is not due is seen to change nothing (O36). -/

namespace Sys2Proof.Machine

/-! ### Numbers and their bytes -/

theorem fromBytes_foldl (bytes : List Byte) (acc : Nat) :
    bytes.foldl (fun acc b => acc * 256 + b.toNat) acc = acc * 256 ^ bytes.length + fromBytes bytes := by
  unfold fromBytes
  induction bytes generalizing acc with
  | nil => simp
  | cons b rest ih =>
    rw [List.foldl_cons, List.foldl_cons, ih, ih (0 * 256 + b.toNat), List.length_cons, pow_succ]
    ring

theorem fromBytes_cons (b : Byte) (rest : List Byte) :
    fromBytes (b :: rest) = b.toNat * 256 ^ rest.length + fromBytes rest := by
  rw [fromBytes, List.foldl_cons, fromBytes_foldl]
  simp

theorem fromBytes_lt (bytes : List Byte) : fromBytes bytes < 256 ^ bytes.length := by
  induction bytes with
  | nil => simp [fromBytes]
  | cons b rest ih =>
    have hb : b.toNat + 1 ≤ 256 := b.isLt
    calc fromBytes (b :: rest) = b.toNat * 256 ^ rest.length + fromBytes rest := fromBytes_cons b rest
      _ < (b.toNat + 1) * 256 ^ rest.length := by rw [Nat.add_mul, Nat.one_mul]; omega
      _ ≤ 256 * 256 ^ rest.length := Nat.mul_le_mul_right _ hb
      _ = 256 ^ (b :: rest).length := by rw [List.length_cons, pow_succ, Nat.mul_comm]

theorem bigEndian_mul_add (n k v : Nat) : bigEndian n (k * 256 ^ n + v) = bigEndian n v := by
  induction n generalizing k with
  | zero => rfl
  | succ n ih =>
    have hk : k * 256 ^ (n + 1) + v = k * 256 * 256 ^ n + v := by rw [pow_succ]; ring
    unfold bigEndian
    rw [hk, ih (k * 256)]
    congr 1
    apply BitVec.eq_of_toNat_eq
    rw [BitVec.toNat_ofNat, BitVec.toNat_ofNat, Nat.add_comm, Nat.add_mul_div_right _ _ (by positivity)]
    omega

/-- The bytes of the number that bytes spell are those bytes (R206). -/
theorem bigEndian_fromBytes (bytes : List Byte) : bigEndian bytes.length (fromBytes bytes) = bytes := by
  induction bytes with
  | nil => rfl
  | cons b rest ih =>
    have hrest : fromBytes rest / 256 ^ rest.length = 0 := Nat.div_eq_of_lt (fromBytes_lt rest)
    rw [List.length_cons, bigEndian, fromBytes_cons, bigEndian_mul_add, ih, Nat.add_comm,
      Nat.add_mul_div_right _ _ (by positivity), hrest, Nat.zero_add, BitVec.ofNat_toNat, BitVec.setWidth_eq]

theorem fromBytes_toNat {bytes : List Byte} {n w : Nat} (hn : bytes.length = n) (hw : 256 ^ n = 2 ^ w) :
    (BitVec.ofNat w (fromBytes bytes)).toNat = fromBytes bytes := by
  rw [BitVec.toNat_ofNat, Nat.mod_eq_of_lt]
  rw [← hw, ← hn]
  exact fromBytes_lt bytes

/-! ### The command that a byte names -/

theorem commandNamed_commandCode (c : Command) : commandNamed (commandCode c) = some c := by
  cases c <;> rfl

theorem commandCode_of_named {code : Byte} {c : Command} (h : commandNamed code = some c) : commandCode c = code := by
  simpa using List.find?_some h

theorem commandNamed_eq_none_iff (code : Byte) : commandNamed code = none ↔ ∀ c, commandCode c ≠ code := by
  constructor
  · rintro h c rfl
    rw [commandNamed_commandCode] at h
    cases h
  · intro h
    cases hc : commandNamed code with
    | none => rfl
    | some c => exact absurd (commandCode_of_named hc) (h c)

@[simp] theorem argumentsAfter_commandCode (c : Command) : argumentsAfter (commandCode c) = argumentCount c := by
  rw [argumentsAfter, commandNamed_commandCode]

theorem argumentsAfter_of_unnamed {code : Byte} (h : commandNamed code = none) : argumentsAfter code = 0 := by
  rw [argumentsAfter, h]

@[simp] theorem State.runByte_commandCode (s : State) (c : Command) (args : List Byte) :
    s.runByte (commandCode c) args = s.run c args := by
  rw [State.runByte, commandNamed_commandCode]

theorem State.runByte_of_unnamed (s : State) {code : Byte} (h : commandNamed code = none) (args : List Byte) :
    s.runByte code args = s.runUnknown := by
  rw [State.runByte, h]

/-! ### The row of a command -/

theorem State.serve_of_awaits {s : State} {code : Byte} {args : List Byte} (h : s.frame.awaits (code :: args) = true)
    (ran : Reply × State) : s.serve code args ran = afterExecution code args ran := if_pos h

theorem State.serve_of_not_awaits {s : State} {code : Byte} {args : List Byte}
    (h : s.frame.awaits (code :: args) = false) (ran : Reply × State) : s.serve code args ran = s :=
  if_neg (by rw [h]; exact Bool.false_ne_true)

/-- A command's row is the service of the command with its bytes, whichever command it is. -/
theorem exec_rowOf {s : State} (ha : s.award = none) {c : Command} {args : List Byte}
    (hlength : args.length = argumentCount c) (hc : c ≠ .resetCold) :
    exec (rowOf c args) s = .next (s.serve (commandCode c) args (s.run c args)) := by
  have hsettled := s.settled_of_award_none ha
  have hline (h : args.length = 3) : bigEndian 3 (fromBytes args) = args ∧
      (BitVec.ofNat 24 (fromBytes args)).toNat = fromBytes args := by
    have hnat := fromBytes_toNat (w := 24) h (by norm_num)
    refine ⟨?_, hnat⟩
    rw [← h]
    exact bigEndian_fromBytes args
  cases c
  case resetCold => exact absurd rfl hc
  case writeSetting =>
    obtain ⟨id, high, low, rfl⟩ := List.length_eq_three.mp hlength
    have hnat := fromBytes_toNat (bytes := [high, low]) (w := 16) rfl (by norm_num)
    simp only [exec, rowOf, execWriteSetting, hsettled, State.serveWrite, writeArguments, State.run, argument,
      List.drop_succ_cons, List.drop_zero, List.getD_cons_zero, hnat]
    rw [show bigEndian 2 (fromBytes [high, low]) = [high, low] from bigEndian_fromBytes [high, low]]
  case mapPreset =>
    obtain ⟨hbytes, hnat⟩ := hline hlength
    simp only [exec, rowOf, execMapPreset, hsettled, State.run, hbytes, hnat]
  case migrate =>
    obtain ⟨hbytes, hnat⟩ := hline hlength
    simp only [exec, rowOf, execMigrate, hsettled, State.run, hbytes, hnat]
  case cancel =>
    obtain ⟨hbytes, hnat⟩ := hline hlength
    simp only [exec, rowOf, execCancel, hsettled, State.run, hbytes, hnat]
  case readSetting | readSlot | readHealth | readMigration | unmapSlot =>
    obtain ⟨x, rfl⟩ := List.length_eq_one_iff.mp hlength
    simp only [exec, rowOf, execReadSetting, execReadSlot, execReadHealth, execReadMigration, execUnmapSlot, hsettled,
      State.run, argument, List.getD_cons_zero]
  case identify | readStatus | peekReport | popReport | clearHealth | startSweep | adopt | quiesce | resume =>
    cases List.length_eq_zero_iff.mp hlength
    simp only [exec, rowOf, execIdentify, execReadStatus, execPeekReport, execPopReport, execClearHealth,
      execStartSweep, execAdopt, execQuiesce, execResume, hsettled, State.run]

theorem exec_unknownCommand {s : State} (ha : s.award = none) (code : Byte) :
    exec (.unknownCommand code) s =
      .next (if commandNamed code = none then s.serve code [] s.runUnknown else s) := by
  simp only [exec, execUnknownCommand, s.settled_of_award_none ha, Option.isNone_iff_eq_none]

/-! ### Rows that are not due -/

theorem State.awardedTo_eq_false {s : State} {r : Requester} (h : ∀ a, s.award = some a → a.grantee ≠ r) :
    s.awardedTo r = false := by
  unfold State.awardedTo
  cases ha : s.award with
  | none => rfl
  | some a => simpa using h a ha

theorem State.liveAccess_eq_some {s : State} {x : Access} (h : s.liveAccess = some x) :
    s.port.abandoned = false ∧ s.port.access = some x := by
  unfold State.liveAccess at h
  split at h
  · cases h
  · rename_i hlive
    exact ⟨by simpa using hlive, h⟩

/-- A completion whose access is not the live one changes nothing. -/
theorem completionsNotDue {s : State} (ha : s.award = none) (changed : StoredWord) :
    ((∀ a, s.liveAccess ≠ some (.hostRead a)) → exec (.hostReadComplete changed) s = .next s) ∧
    ((∀ a w, s.liveAccess ≠ some (.inlineWriteBack a w)) → exec .inlineWriteBackComplete s = .next s) ∧
    ((∀ a, s.liveAccess ≠ some (.mergeRead a)) → exec (.partialWriteReadComplete changed) s = .next s) ∧
    ((∀ a w, s.liveAccess ≠ some (.hostWrite a w)) → exec .hostWriteComplete s = .next s) ∧
    ((∀ a w, s.liveAccess ≠ some (.targetWrite a w)) → exec .targetWriteComplete s = .next s) ∧
    ((∀ a w, s.liveAccess ≠ some (.drainWrite a w)) → exec .drainWriteComplete s = .next s) ∧
    ((∀ a, s.liveAccess ≠ some (.patrolRead a)) → exec (.patrolReadComplete changed) s = .next s) ∧
    ((∀ a w, s.liveAccess ≠ some (.patrolWrite a w)) → exec .patrolWriteComplete s = .next s) ∧
    ((∀ a, s.liveAccess ≠ some (.copyRead a)) → exec (.copyReadComplete changed) s = .next s) ∧
    ((∀ a w d, s.liveAccess ≠ some (.copyWrite a w d)) → exec .copyWriteComplete s = .next s) ∧
    ((∀ a w, s.liveAccess ≠ some (.sweepWrite a w)) → exec .sweepWriteComplete s = .next s) := by
  have hsettled := s.settled_of_award_none ha
  refine ⟨?_, ?_, ?_, ?_, ?_, ?_, ?_, ?_, ?_, ?_, ?_⟩
  all_goals
    intro h
    simp only [exec, execHostReadComplete, execInlineWriteBackComplete, execPartialWriteReadComplete,
      execHostWriteComplete, execTargetWriteComplete, execDrainWriteComplete, execPatrolReadComplete,
      execPatrolWriteComplete, execCopyReadComplete, execCopyWriteComplete, execSweepWriteComplete]
    rw [hsettled]
    split
    · simp_all
    · rfl

/-- Settles O36: each row's own test fails. -/
theorem rowsNotDueChangeNothing : Obligations.RowsNotDueChangeNothing := by
  intro s
  have hsettled (ha : s.award = none) := s.settled_of_award_none ha
  refine ⟨fun c r hrow hother => ?_, fun ha changed => ?_, fun ha hlive => ?_, fun ha hnot => ?_, fun ha hnot => ?_,
    fun ha c args hlength hc hawaits => ?_, fun ha v row hrow hawaits => ?_, fun ha code hnot => ?_, fun ha hnot => ?_⟩
  · have haward := State.awardedTo_eq_false hother
    simp only [List.mem_cons, Prod.mk.injEq, List.not_mem_nil, or_false] at hrow
    rcases hrow with ⟨rfl, rfl⟩ | ⟨rfl, rfl⟩ | ⟨rfl, rfl⟩ | ⟨rfl, rfl⟩ | ⟨rfl, rfl⟩
    all_goals simp only [exec, execHostGrant, execDrainGrant, execPatrolGrant, execCopyGrant, execSweepGrant, haward,
      Bool.false_eq_true, if_false]
  · intro live
    have hnot {x : Access} (h : ¬ live x) : s.liveAccess ≠ some x := fun hx => h (State.liveAccess_eq_some hx)
    obtain ⟨h1, h2, h3, h4, h5, h6, h7, h8, h9, h10, h11⟩ := completionsNotDue ha changed
    exact ⟨fun h => h1 fun a => hnot (h a), fun h => h2 fun a w => hnot (h a w), fun h => h3 fun a => hnot (h a),
      fun h => h4 fun a w => hnot (h a w), fun h => h5 fun a w => hnot (h a w), fun h => h6 fun a w => hnot (h a w),
      fun h => h7 fun a => hnot (h a), fun h => h8 fun a w => hnot (h a w), fun h => h9 fun a => hnot (h a),
      fun h => h10 fun a w d => hnot (h a w d), fun h => h11 fun a w => hnot (h a w)⟩
  · simp only [exec, execAbandonedAccessComplete, hsettled ha, hlive, Bool.false_eq_true, if_false]
  · have hdue : s.takeDue = false := by
      unfold State.takeDue
      rcases hnot with h | h | h <;> simp [h]
    have hexec : exec .take s = execTake s := rfl
    rw [hexec, execTake_of_award_none s ha, hdue]
    rfl
  · have hdue : ¬ s.expiryDue = true := by
      rw [State.expiryDue_iff]
      rintro ⟨hm, ht⟩
      rcases hnot with h | h
      · exact h hm
      · exact h ht
    simp only [exec, execIntervalExpiry, hsettled ha, if_neg hdue]
  · rw [exec_rowOf ha hlength hc, State.serve_of_not_awaits hawaits]
  · simp only [List.mem_cons, List.not_mem_nil, or_false] at hrow
    have hserve : s.serveWrite row.1 v = s := State.serve_of_not_awaits hawaits _
    rcases hrow with rfl | rfl | rfl | rfl | rfl | rfl | rfl | rfl
    all_goals
      simp only [exec, execWriteMemoryLinesLog2, execWriteSpareCount, execWritePatrolInterval, execWriteDebtLimit,
        execWriteMigrateThreshold, execWriteMigrateOnUncorrectable, execWriteAgePasses, execWriteAlertMask, hsettled ha]
      exact congrArg Host.Outcome.next hserve
  · rw [exec_unknownCommand ha]
    split
    · rename_i hnone
      rw [State.serve_of_not_awaits (hnot.resolve_left fun h => h hnone)]
    · rfl
  · simp only [exec, execResetCold, hsettled ha]
    rcases hnot with hmcs | ⟨hawaits, hdue⟩
    · rw [if_neg]
      have : (s.serve (commandCode .resetCold) [] s.runResetCold).mcs = s.mcs := by
        unfold State.serve
        split <;> rfl
      simp [this, hmcs]
    · rw [State.serve_of_not_awaits (code := commandCode .resetCold) hawaits, if_neg]
      rw [Bool.and_eq_true, Frame.resetDue_iff]
      exact fun h => hdue h.2

end Sys2Proof.Machine
end

section
/-! SUPPORT. The edges of MSCK: what one edge does (O52), and what the edges of a command's bytes do together (O53). -/

namespace Sys2Proof.Machine

/-! ### What a byte names -/

/-- The command bytes of 12_formats.md, 12.3, are those of the commands. -/
theorem commandNamed_eq_none_iff_not_mem (code : Byte) :
    commandNamed code = none ↔
      code ∉ [0x01#8, 0x02#8, 0x03#8, 0x04#8, 0x05#8, 0x06#8, 0x07#8, 0x08#8, 0x09#8, 0x10#8, 0x11#8, 0x12#8, 0x13#8,
        0x14#8, 0x20#8, 0x21#8, 0x22#8, 0x23#8, 0x3C#8] := by
  rw [commandNamed_eq_none_iff]
  constructor
  · intro h hmem
    have hcode : code ∈ allCommands.map commandCode := hmem
    obtain ⟨c, -, rfl⟩ := List.mem_map.mp hcode
    exact h c rfl
  · rintro h c rfl
    refine h ?_
    change commandCode c ∈ allCommands.map commandCode
    exact List.mem_map_of_mem (by cases c <;> simp [allCommands])

theorem argumentsAfter_eq (code : Byte) :
    argumentsAfter code =
      if code ∈ [0x04#8, 0x10#8, 0x12#8, 0x13#8] then 3
      else if code ∈ [0x03#8, 0x05#8, 0x06#8, 0x07#8, 0x11#8] then 1 else 0 := by
  cases h : commandNamed code with
  | none =>
    rw [argumentsAfter_of_unnamed h]
    rw [commandNamed_eq_none_iff_not_mem] at h
    simp only [List.mem_cons, List.not_mem_nil, or_false, not_or] at h ⊢
    rw [if_neg (by simp [h]), if_neg (by simp [h])]
  | some c =>
    obtain rfl := commandCode_of_named h
    rw [argumentsAfter_commandCode]
    cases c <;> rfl

/-! ### One edge -/

theorem Frame.shiftIn_getLsbD (f : Frame) (msi : Bool) {i : Nat} (hi : i < 8) :
    (f.shiftIn msi).getLsbD i = if i = 0 then msi else f.bits.getLsbD (i - 1) := by
  have hbit : (if msi then 1#8 else 0#8).getLsbD i = (decide (i = 0) && msi) := by
    cases msi
    · simp
    · by_cases h : i = 0 <;> simp [h, BitVec.getLsbD_one]
  rw [Frame.shiftIn, BitVec.getLsbD_or, BitVec.getLsbD_shiftLeft, hbit]
  by_cases h : i = 0
  · simp [h]
  · simp [h, hi, show ¬ i < 1 by omega]

theorem Frame.eq_shiftIn {f : Frame} {msi : Bool} {byte : Byte}
    (h : ∀ i < 8, byte.getLsbD i = if i = 0 then msi else f.bits.getLsbD (i - 1)) : byte = f.shiftIn msi :=
  BitVec.eq_of_getLsbD_eq fun i hi => by rw [h i hi, f.shiftIn_getLsbD msi hi]

theorem exec_msckRisingEdge {s : State} (ha : s.award = none) (hmcs : s.mcs = true) (msi : Bool) :
    exec (.msckRisingEdge msi) s = .next (s.clockEdge msi) := by
  simp only [exec, execMsckRisingEdge, s.settled_of_award_none ha, hmcs, if_true]

section
variable {s : State} (msi : Bool)

theorem State.clockEdge_of_idle (h : s.frame.state = .idle) : s.clockEdge msi = s := by
  simp only [State.clockEdge, h, ite_self]

theorem State.clockEdge_shifts (hcount : s.frame.bitCount < 7)
    (hstate : s.frame.state = .command ∨ s.frame.state = .arguments) :
    s.clockEdge msi =
      { s with frame := { s.frame with bitCount := s.frame.bitCount + 1, bits := s.frame.shiftIn msi } } := by
  rcases hstate with h | h <;> simp only [State.clockEdge, if_pos hcount, h]

theorem State.clockEdge_counts (hcount : s.frame.bitCount < 7)
    (hstate : s.frame.state = .response ∨ s.frame.state = .trailing) :
    s.clockEdge msi = { s with frame := { s.frame with bitCount := s.frame.bitCount + 1 } } := by
  rcases hstate with h | h <;> simp only [State.clockEdge, if_pos hcount, h]

theorem State.clockEdge_eighth (hcount : s.frame.bitCount = 7) :
    (s.frame.state = .command → s.clockEdge msi = s.commandByte (s.frame.shiftIn msi)) ∧
    (s.frame.state = .arguments → s.clockEdge msi = s.argumentByte (s.frame.shiftIn msi)) ∧
    (s.frame.state = .response → s.clockEdge msi = { s with frame := s.frame.byteSent }) ∧
    (s.frame.state = .trailing → s.clockEdge msi = { s with frame := { s.frame with bitCount := 0 } }) := by
  have hnot : ¬ s.frame.bitCount < 7 := by omega
  refine ⟨fun h => ?_, fun h => ?_, fun h => ?_, fun h => ?_⟩ <;> simp only [State.clockEdge, if_neg hnot, h]

end

/-- Settles O52: an edge by the frame's state and by whether it is the eighth of its byte. -/
theorem clockEdgesCount : Obligations.ClockEdgesCount := by
  intro s msi ha f
  refine ⟨argumentsAfter_eq, fun h => ?_, fun h => ?_, fun byte h hbyte => ?_, fun h => ?_, fun hmcs hcount => ?_,
    fun hmcs hcount => ?_⟩
  · rw [State.mso, show s.frame.state = _ from h]
  · rcases h with h | h | h <;> rw [State.mso, show s.frame.state = _ from h]
  · rw [State.mso, show s.frame.state = _ from h]
    change some ((f.response.getD f.sent 0#8).getLsbD _) = _
    rw [List.getD_eq_getElem?_getD, hbyte]
    rfl
  · have hexec : exec (.msckRisingEdge msi) s = .next (if s.mcs then s.clockEdge msi else s) := by
      simp only [exec, execMsckRisingEdge, s.settled_of_award_none ha]
    rcases h with h | h
    · rw [hexec, h]
      rfl
    · rw [hexec, State.clockEdge_of_idle msi h, ite_self]
  · rw [exec_msckRisingEdge ha hmcs msi]
    exact ⟨fun h => ⟨f.shiftIn msi, fun i hi => f.shiftIn_getLsbD msi hi,
      congrArg Host.Outcome.next (State.clockEdge_shifts msi hcount h)⟩,
      fun h => congrArg Host.Outcome.next (State.clockEdge_counts msi hcount h)⟩
  · obtain ⟨hcommand, harguments, hresponse, htrailing⟩ := State.clockEdge_eighth msi hcount
    rw [exec_msckRisingEdge ha hmcs msi]
    refine ⟨fun h => congrArg Host.Outcome.next (hresponse h), fun h => congrArg Host.Outcome.next (htrailing h),
      fun byte hbyte => ⟨fun h hargs => ?_, fun h hargs => ?_⟩⟩
    · rw [Frame.eq_shiftIn hbyte] at hargs ⊢
      rw [hcommand h]
      exact congrArg Host.Outcome.next (if_neg (Nat.one_le_iff_ne_zero.mp hargs))
    · rw [Frame.eq_shiftIn hbyte, harguments h]
      have hmore : (s.frame.args ++ [s.frame.shiftIn msi]).length < argumentsAfter s.frame.command := by
        rw [List.length_append]
        exact hargs
      rw [State.argumentByte, if_pos hmore]

/-! ### A command reads nothing of the frame -/

/-- The state with another frame. -/
def State.inFrame (s : State) (f : Frame) : State := { s with frame := f }

theorem State.append_inFrame (s : State) (f : Frame) (r : Report) :
    (s.inFrame f).append r = (s.append r).inFrame f := by
  unfold State.append
  simp only [show (s.inFrame f).reports = s.reports from rfl]
  split_ifs <;> rfl

theorem State.arbitrate_inFrame (s : State) (f : Frame) : (s.inFrame f).arbitrate = s.arbitrate.inFrame f := by
  unfold State.arbitrate
  simp only [show (s.inFrame f).port = s.port from rfl, show (s.inFrame f).award = s.award from rfl]
  split_ifs <;> rfl

theorem State.quietCheck_inFrame (s : State) (f : Frame) : (s.inFrame f).quietCheck = s.quietCheck.inFrame f := by
  unfold State.quietCheck
  simp only [show (s.inFrame f).mode = s.mode from rfl,
    show (s.inFrame f).quiesceConditions = s.quiesceConditions from rfl]
  split_ifs
  · exact State.append_inFrame { s with mode := .quiet } f .quietReached
  · rfl

theorem State.respond_inFrame (s : State) (f : Frame) (o : HostOutcome) (hd : Option DataWord) :
    (s.inFrame f).respond o hd = (s.respond o hd).inFrame f := by
  unfold State.respond
  simp only [show (s.inFrame f).strobeHeld = s.strobeHeld from rfl]
  split_ifs <;> rfl

theorem State.refuseCycle_inFrame (s : State) (f : Frame) (r : CycleRecord) (reason : RefusalReason) :
    (s.inFrame f).refuseCycle r reason = (s.refuseCycle r reason).inFrame f := by
  let cleared : CycleRecord := { r with writeBackPass := false, patrolPass := false, starvationPass := false }
  let t : State := { s with host := { s.host with record := some cleared } }
  change ((t.inFrame f).append _).respond _ _ = _
  rw [State.append_inFrame, State.respond_inFrame]
  rfl

theorem State.refuseWaiting_inFrame (s : State) (f : Frame) :
    (s.inFrame f).refuseWaiting = s.refuseWaiting.inFrame f := by
  unfold State.refuseWaiting
  simp only [show (s.inFrame f).hostWaiting = s.hostWaiting from rfl, show (s.inFrame f).host = s.host from rfl]
  split_ifs
  · cases s.host.record with
    | none => rfl
    | some r => exact s.refuseCycle_inFrame f r .notReady
  · rfl

theorem State.cancelInFlight_inFrame (s : State) (f : Frame) (c : Copy) :
    (s.inFrame f).cancelInFlight c = (s.cancelInFlight c).inFrame f := by
  unfold State.cancelInFlight
  simp only [show (s.inFrame f).portHoldsCopy = s.portHoldsCopy from rfl]
  split_ifs
  · rfl
  · rw [← State.quietCheck_inFrame]
    exact congrArg State.quietCheck (State.append_inFrame (s.dropCopy c) f _)

theorem State.putMemoryLinesLog2_inFrame (s : State) (f : Frame) (v : Nat) :
    (s.inFrame f).putMemoryLinesLog2 v = ((s.putMemoryLinesLog2 v).1, (s.putMemoryLinesLog2 v).2.inFrame f) := by
  unfold State.putMemoryLinesLog2
  simp only [show (s.inFrame f).mode = s.mode from rfl, show (s.inFrame f).settings = s.settings from rfl,
    show ∀ bound, (s.inFrame f).activeHomeFrom bound = s.activeHomeFrom bound from fun _ => rfl]
  split_ifs <;> rfl

theorem State.putSpareCount_inFrame (s : State) (f : Frame) (v : Nat) :
    (s.inFrame f).putSpareCount v = ((s.putSpareCount v).1, (s.putSpareCount v).2.inFrame f) := by
  unfold State.putSpareCount
  simp only [show (s.inFrame f).mode = s.mode from rfl, show (s.inFrame f).slots = s.slots from rfl,
    show (s.inFrame f).memoryLines = s.memoryLines from rfl,
    show ∀ bound, (s.inFrame f).activeHomeFrom bound = s.activeHomeFrom bound from fun _ => rfl]
  split_ifs <;> rfl

theorem State.putSetting_inFrame (s : State) (f : Frame) (id : Byte) (v : Nat) :
    (s.inFrame f).putSetting id v = ((s.putSetting id v).1, (s.putSetting id v).2.inFrame f) := by
  unfold State.putSetting
  split_ifs
  · exact s.putMemoryLinesLog2_inFrame f v
  · exact s.putSpareCount_inFrame f v
  · rfl
  · unfold State.putDebtLimit
    split_ifs <;> rfl
  · unfold State.putMigrateThreshold
    split_ifs <;> rfl
  · unfold State.putMigrateOnUncorrectable
    split_ifs <;> rfl
  · unfold State.putAgePasses
    split_ifs <;> rfl
  · unfold State.putAlertMask
    split_ifs <;> rfl
  · rfl

/-- What a command answers and does turns on nothing of the frame, and leaves the frame alone. -/
theorem State.run_inFrame (s : State) (f : Frame) (c : Command) (args : List Byte) :
    (s.inFrame f).run c args = ((s.run c args).1, (s.run c args).2.inFrame f) := by
  cases c <;> simp only [State.run]
  case identify | readStatus | clearHealth | resetCold => rfl
  case readSetting =>
    unfold State.runReadSetting
    simp only [show (s.inFrame f).settings = s.settings from rfl]
    cases s.settings.value (argument args 0) <;> rfl
  case writeSetting =>
    unfold State.runWriteSetting
    rw [State.putSetting_inFrame]
    simp only [show ∀ t : State, (t.inFrame f).settings = t.settings from fun _ => rfl]
    split <;> rfl
  case readSlot =>
    unfold State.runReadSlot
    simp only [show (s.inFrame f).slots = s.slots from rfl]
    cases s.slots[(argument args 0).toNat]? <;> rfl
  case readHealth =>
    unfold State.runReadHealth
    simp only [show (s.inFrame f).health = s.health from rfl]
    cases s.health[(argument args 0).toNat]? <;> rfl
  case readMigration =>
    unfold State.runReadMigration
    split_ifs <;> rfl
  case peekReport =>
    unfold State.runPeekReport
    simp only [show (s.inFrame f).reports = s.reports from rfl]
    cases s.reports <;> rfl
  case popReport =>
    unfold State.runPopReport
    simp only [show (s.inFrame f).reports = s.reports from rfl]
    cases s.reports <;> rfl
  case mapPreset =>
    unfold State.runMapPreset
    simp only [show (s.inFrame f).mode = s.mode from rfl, show (s.inFrame f).poolBase = s.poolBase from rfl,
      show ∀ line, (s.inFrame f).activeSlot line = s.activeSlot line from fun _ => rfl,
      show (s.inFrame f).freeSlot = s.freeSlot from rfl]
    split_ifs
    · rfl
    · rfl
    · rfl
    · cases s.freeSlot <;> rfl
  case unmapSlot =>
    unfold State.runUnmapSlot
    simp only [show (s.inFrame f).mode = s.mode from rfl, show (s.inFrame f).slots = s.slots from rfl]
    split_ifs
    · rfl
    · cases s.slots[(argument args 0).toNat]? with
      | none => rfl
      | some slot =>
        dsimp only
        split_ifs <;> rfl
  case migrate =>
    have hanswer (line : Nat) : (s.inFrame f).intakeAnswer line = s.intakeAnswer line := rfl
    unfold State.runMigrate State.intake
    simp only [show (s.inFrame f).mode = s.mode from rfl, show (s.inFrame f).poolBase = s.poolBase from rfl, hanswer]
    split_ifs
    · rfl
    · rfl
    · cases s.intakeAnswer (fromBytes args) <;> rfl
  case cancel =>
    unfold State.runCancel
    simp only [show (s.inFrame f).poolBase = s.poolBase from rfl,
      show (s.inFrame f).copyOf (fromBytes args) = s.copyOf (fromBytes args) from rfl,
      show (s.inFrame f).migrations = s.migrations from rfl]
    split_ifs
    · rfl
    · cases s.copyOf (fromBytes args) with
      | none => rfl
      | some c => exact congrArg (Prod.mk _) (s.cancelInFlight_inFrame f c)
    · cases s.copyOf (fromBytes args) with
      | none => rfl
      | some c => exact congrArg (Prod.mk _) (s.cancelInFlight_inFrame f c)
  case startSweep =>
    unfold State.runStartSweep
    simp only [show (s.inFrame f).mode = s.mode from rfl]
    split_ifs
    · refine congrArg (Prod.mk _) ?_
      rw [← State.arbitrate_inFrame, ← State.refuseWaiting_inFrame]
      rfl
    · rfl
  case adopt =>
    unfold State.runAdopt
    simp only [show (s.inFrame f).mode = s.mode from rfl]
    split_ifs <;> rfl
  case quiesce =>
    unfold State.runQuiesce
    simp only [show (s.inFrame f).mode = s.mode from rfl]
    cases s.mode with
    | normal =>
      refine congrArg (Prod.mk _) ?_
      rw [← State.quietCheck_inFrame]
      rfl
    | uninit | sweeping | quiescing | quiet => rfl
  case resume =>
    unfold State.runResume
    simp only [show (s.inFrame f).mode = s.mode from rfl]
    split_ifs <;> rfl

theorem afterExecution_inFrame (s : State) (f : Frame) (code : Byte) (args : List Byte) :
    afterExecution code args ((s.inFrame f).runByte code args) = afterExecution code args (s.runByte code args) := by
  cases h : commandNamed code with
  | none =>
    simp only [State.runByte_of_unnamed _ h]
    rfl
  | some c =>
    obtain rfl := commandCode_of_named h
    simp only [State.runByte_commandCode, State.run_inFrame]
    rfl

/-! ### The edges of one byte -/

/-- The state in which the first `k` bits of a byte have been received. -/
def State.receiving (s : State) (byte : Byte) (k : Nat) : State :=
  s.inFrame { s.frame with bitCount := k, bits := byte >>> (8 - k) }

theorem execAll_edge {s : State} (ha : s.award = none) (hmcs : s.mcs = true) (msi : Bool) (rest : List Instr) :
    execAll (.msckRisingEdge msi :: rest) s = execAll rest (s.clockEdge msi) := by
  rw [execAll, exec_msckRisingEdge ha hmcs]

theorem shiftIn_ushiftRight {f : Frame} {byte : Byte} {k : Nat} (hk : k < 8) (hbits : f.bits = byte >>> (8 - k)) :
    f.shiftIn (byte.getLsbD (7 - k)) = byte >>> (8 - (k + 1)) := by
  refine (Frame.eq_shiftIn fun i hi => ?_).symm
  rw [hbits, BitVec.getLsbD_ushiftRight]
  by_cases h : i = 0
  · rw [if_pos h]
    congr 1
    omega
  · rw [if_neg h, BitVec.getLsbD_ushiftRight]
    congr 1
    omega

theorem State.clockEdge_receiving {s : State} (hstate : s.frame.state = .command ∨ s.frame.state = .arguments)
    (byte : Byte) {k : Nat} (hk : k < 7) :
    (s.receiving byte k).clockEdge (byte.getLsbD (7 - k)) = s.receiving byte (k + 1) := by
  have hshift : (s.receiving byte k).frame.shiftIn (byte.getLsbD (7 - k)) = byte >>> (8 - (k + 1)) :=
    shiftIn_ushiftRight (by omega) rfl
  rw [State.clockEdge_shifts _ (show (s.receiving byte k).frame.bitCount < 7 from hk) hstate, hshift]
  rfl

/-- All bits of a byte but the last. -/
theorem execAll_bits {s : State} (ha : s.award = none) (hmcs : s.mcs = true)
    (hstate : s.frame.state = .command ∨ s.frame.state = .arguments) (byte : Byte) (rest : List Instr) (n k : Nat)
    (hn : k + n = 7) :
    execAll ((List.range' k n).map (fun i => .msckRisingEdge (byte.getLsbD (7 - i))) ++ rest) (s.receiving byte k) =
      execAll rest (s.receiving byte 7) := by
  induction n generalizing k with
  | zero =>
    obtain rfl : k = 7 := by omega
    rfl
  | succ n ih =>
    rw [List.range'_succ, List.map_cons, List.cons_append,
      execAll_edge (show (s.receiving byte k).award = none from ha) (show (s.receiving byte k).mcs = true from hmcs),
      State.clockEdge_receiving hstate byte (by omega), ih (k + 1) (by omega)]

/-- A byte's edges, from its beginning: seven that count its bits, and the eighth, which completes it. -/
theorem execAll_byte {s : State} (ha : s.award = none) (hmcs : s.mcs = true)
    (hstate : s.frame.state = .command ∨ s.frame.state = .arguments) (hcount : s.frame.bitCount = 0)
    (hbits : s.frame.bits = 0#8) (byte : Byte) (rest : List Byte) :
    execAll (edgesOf (byte :: rest)) s =
      execAll (edgesOf rest)
        (if s.frame.state = .command then (s.receiving byte 7).commandByte byte
        else (s.receiving byte 7).argumentByte byte) := by
  have hbegin : s.receiving byte 0 = s := by
    have hzero : byte >>> 8 = 0#8 := BitVec.ushiftRight_eq_zero (le_refl 8)
    obtain ⟨hc, hb⟩ : s.frame.bitCount = 0 ∧ s.frame.bits = byte >>> 8 := ⟨hcount, hbits.trans hzero.symm⟩
    rw [State.receiving, ← hc, hc, ← hb]
    rw [← hc]
    rfl
  have hedges : edgesOf (byte :: rest) = (List.range' 0 7).map (fun i => .msckRisingEdge (byte.getLsbD (7 - i))) ++
      .msckRisingEdge (byte.getLsbD (7 - 7)) :: edgesOf rest := by
    simp only [edgesOf, List.flatMap_cons, List.map_append]
    rfl
  have hlast : (s.receiving byte 7).frame.shiftIn (byte.getLsbD (7 - 7)) = byte := by
    rw [shiftIn_ushiftRight (k := 7) (by omega) rfl]
    simp
  have heighth : (s.receiving byte 7).clockEdge (byte.getLsbD (7 - 7)) =
      if s.frame.state = .command then (s.receiving byte 7).commandByte byte
      else (s.receiving byte 7).argumentByte byte := by
    obtain ⟨hcommand, harguments, -, -⟩ := State.clockEdge_eighth (s := s.receiving byte 7) (byte.getLsbD (7 - 7)) rfl
    rw [hlast] at hcommand harguments
    rcases hstate with h | h
    · rw [if_pos h, hcommand h]
    · rw [if_neg (by rw [h]; exact nofun), harguments h]
  rw [hedges]
  conv_lhs => rw [← hbegin]
  rw [execAll_bits ha hmcs hstate byte _ 7 0 rfl,
    execAll_edge (show (s.receiving byte 7).award = none from ha) (show (s.receiving byte 7).mcs = true from hmcs),
    heighth]

/-! ### The edges of a command -/

/-- The frame that has received a command byte and some of its arguments. -/
def Frame.withArguments (code : Byte) (args : List Byte) : Frame :=
  { Frame.none with state := .arguments, command := code, args := args }

/-- The last arguments of a command: the byte that completes them executes it. -/
theorem execAll_arguments {s : State} (ha : s.award = none) (hmcs : s.mcs = true) (code : Byte) (rest : List Byte)
    (before : List Byte) (hrest : rest ≠ []) (hlength : before.length + rest.length = argumentsAfter code) :
    execAll (edgesOf rest) (s.inFrame (Frame.withArguments code before)) =
      .next (afterExecution code (before ++ rest) (s.runByte code (before ++ rest))) := by
  induction rest generalizing before with
  | nil => exact absurd rfl hrest
  | cons byte rest ih =>
    have hbyte : ((s.inFrame (Frame.withArguments code before)).receiving byte 7).argumentByte byte =
        if before.length + 1 < argumentsAfter code then s.inFrame (Frame.withArguments code (before ++ [byte]))
        else afterExecution code (before ++ [byte]) (s.runByte code (before ++ [byte])) := by
      rw [← afterExecution_inFrame s ((s.inFrame (Frame.withArguments code before)).receiving byte 7).frame,
        State.argumentByte]
      simp only [List.length_append]
      rfl
    rw [execAll_byte (s := s.inFrame (Frame.withArguments code before)) ha hmcs (.inr rfl) rfl rfl,
      if_neg (by exact nofun), hbyte]
    rw [List.length_cons] at hlength
    cases rest with
    | nil =>
      rw [if_neg (by rw [← hlength]; simp)]
      rfl
    | cons next rest =>
      rw [List.length_cons] at hlength
      rw [if_pos (by omega), ih (before ++ [byte]) (by exact nofun) (by simp; omega)]
      simp

/-- The bytes of a command, from the beginning of a frame: they leave what the execution leaves. -/
theorem execAll_command {s : State} (ha : s.award = none) (hmcs : s.mcs = true) (hframe : s.frame = Frame.begin)
    (code : Byte) (args : List Byte) (hlength : args.length = argumentsAfter code) :
    execAll (edgesOf (code :: args)) s = .next (afterExecution code args (s.runByte code args)) := by
  have hbyte : (s.receiving code 7).commandByte code =
      if argumentsAfter code = 0 then afterExecution code [] (s.runByte code [])
      else s.inFrame (Frame.withArguments code []) := by
    rw [← afterExecution_inFrame s (s.receiving code 7).frame, State.commandByte]
    congr 1
    rw [State.receiving, hframe]
    rfl
  rw [execAll_byte ha hmcs (.inl (by rw [hframe]; rfl)) (by rw [hframe]; rfl) (by rw [hframe]; rfl),
    if_pos (by rw [hframe]; rfl), hbyte]
  cases args with
  | nil =>
    rw [if_pos (show argumentsAfter code = 0 from hlength.symm)]
    rfl
  | cons byte rest =>
    rw [if_neg (by rw [← hlength]; exact Nat.succ_ne_zero _),
      execAll_arguments ha hmcs code (byte :: rest) [] (by exact nofun) (by simpa using hlength), List.nil_append]

/-! ### What a frame awaits -/

theorem take_eq_and_lt_iff (received bytes : List Byte) :
    received = bytes.take received.length ∧ received.length < bytes.length ↔
      ∃ (next : Byte) (rest : List Byte), bytes = received ++ next :: rest := by
  constructor
  · rintro ⟨htake, hlt⟩
    refine ⟨bytes[received.length], bytes.drop (received.length + 1), ?_⟩
    rw [← List.drop_eq_getElem_cons hlt]
    conv_lhs => rw [← List.take_append_drop received.length bytes, ← htake]
  · rintro ⟨next, rest, rfl⟩
    exact ⟨by simp, by simp⟩

/-- A frame that is receiving awaits bytes of which the received ones are the first, with the bits of the next begun. -/
theorem Frame.awaits_iff_of_receiving {f : Frame} (hstate : f.state = .command ∨ f.state = .arguments)
    (bytes : List Byte) :
    f.awaits bytes = true ↔
      ∃ (next : Byte) (rest : List Byte), bytes = f.received ++ next :: rest ∧ f.bits = next >>> (8 - f.bitCount) := by
  have hreceiving : (f.state == .command || f.state == .arguments) = true := by
    rcases hstate with h | h <;> rw [h] <;> rfl
  simp only [Frame.awaits, hreceiving, Bool.true_and, Bool.and_eq_true, beq_iff_eq, decide_eq_true_eq,
    take_eq_and_lt_iff]
  constructor
  · rintro ⟨⟨next, rest, rfl⟩, hbits⟩
    refine ⟨next, rest, rfl, ?_⟩
    simpa [argument] using hbits
  · rintro ⟨next, rest, rfl, hbits⟩
    refine ⟨⟨next, rest, rfl⟩, ?_⟩
    simpa [argument] using hbits

theorem Frame.begin_awaits (code : Byte) (args : List Byte) : Frame.begin.awaits (code :: args) = true := by
  rw [Frame.awaits_iff_of_receiving (.inl rfl)]
  exact ⟨code, args, rfl, (BitVec.ushiftRight_eq_zero (le_refl 8)).symm⟩

theorem Frame.awaits_iff (f : Frame) (bytes : List Byte) :
    f.awaits bytes = true ↔
      (f.state = .command ∧
        ∃ (next : Byte) (rest : List Byte), bytes = next :: rest ∧ f.bits = next >>> (8 - f.bitCount)) ∨
      (f.state = .arguments ∧
        ∃ (next : Byte) (rest : List Byte),
          bytes = f.command :: (f.args ++ next :: rest) ∧ f.bits = next >>> (8 - f.bitCount)) := by
  cases hstate : f.state with
  | command =>
    rw [Frame.awaits_iff_of_receiving (.inl hstate), show f.received = [] by rw [Frame.received, hstate]]
    simp
  | arguments =>
    rw [Frame.awaits_iff_of_receiving (.inr hstate), show f.received = f.command :: f.args by rw [Frame.received, hstate]]
    simp
  | idle | response | trailing => simp [Frame.awaits, hstate]

/-- Settles O53: a command's bits bring it to its execution, and so does its row. -/
theorem bitsMakeCommands : Obligations.BitsMakeCommands := by
  refine ⟨Frame.awaits_iff, fun s ha hmcs hframe => ⟨fun c args hlength hc => ?_, fun code hcode => ?_, ?_⟩⟩
  · have hawaits : s.frame.awaits (commandCode c :: args) = true := by rw [hframe, Frame.begin_awaits]
    rw [exec_rowOf ha hlength hc, State.serve_of_awaits hawaits, ← State.runByte_commandCode]
    exact execAll_command ha hmcs hframe _ _ (by rw [argumentsAfter_commandCode, hlength])
  · have hawaits : s.frame.awaits [code] = true := by rw [hframe, Frame.begin_awaits]
    rw [exec_unknownCommand ha, if_pos hcode, State.serve_of_awaits hawaits, ← State.runByte_of_unnamed s hcode []]
    exact execAll_command ha hmcs hframe _ _ (by rw [argumentsAfter_of_unnamed hcode]; rfl)
  · exact execAll_command ha hmcs hframe _ _ rfl

end Sys2Proof.Machine
end

section
/-! SUPPORT. What the commands answer: the reads and their records (O54), and POP_REPORT and CLEAR_HEALTH (O59). -/

namespace Sys2Proof.Machine

/-! ### A command whose frame is due -/

/-- A command's row, for a frame that awaits the rest of its bytes: the command runs, and its response is formed (R191). -/
theorem exec_served {s : State} (ha : s.award = none) {row : Instr} {code : Byte} {args : List Byte}
    {ran : State → Reply × State}
    (hrow : ∀ t : State, exec row t = .next (t.settled.serve code args (ran t.settled)))
    (hawaits : s.frame.awaits (code :: args) = true) : exec row s = .next (afterExecution code args (ran s)) := by
  rw [hrow, s.settled_of_award_none ha, State.serve_of_awaits hawaits]

/-! ### The numbers of a record -/

theorem bigEndian_one (n : Nat) : bigEndian 1 n = [BitVec.ofNat 8 n] := by
  simp [bigEndian]

theorem bigEndian_two (n : Nat) : bigEndian 2 n = [BitVec.ofNat 8 (n / 256), BitVec.ofNat 8 n] := by
  simp [bigEndian]

theorem bigEndian_three (n : Nat) :
    bigEndian 3 n = [BitVec.ofNat 8 (n / 65536), BitVec.ofNat 8 (n / 256), BitVec.ofNat 8 n] := by
  simp [bigEndian]

/-! ### The settings' values -/

/-- The identifiers of the settings are 01h to 08h (12_formats.md, 12.4). -/
theorem ne_named {id x : Byte} (h : id = 0x00#8 ∨ 8 < id.toNat) (hx : 1 ≤ x.toNat ∧ x.toNat ≤ 8) : id ≠ x := by
  rintro rfl
  rcases h with h | h
  · rw [h] at hx
    exact absurd hx (by decide)
  · omega

theorem Settings.value_of_unnamed (st : Settings) {id : Byte} (h : id = 0x00#8 ∨ 8 < id.toNat) : st.value id = none := by
  unfold Settings.value
  rw [if_neg (ne_named h (by decide)), if_neg (ne_named h (by decide)), if_neg (ne_named h (by decide)),
    if_neg (ne_named h (by decide)), if_neg (ne_named h (by decide)), if_neg (ne_named h (by decide)),
    if_neg (ne_named h (by decide)), if_neg (ne_named h (by decide))]

theorem Settings.value_of_named {st : Settings} {id : Byte} {v : Nat}
    (h : (id, v) ∈ [(0x01#8, st.memoryLinesLog2), (0x02#8, st.spareCount), (0x03#8, st.patrolInterval),
          (0x04#8, st.debtLimit), (0x05#8, st.migrateThreshold),
          (0x06#8, if st.migrateOnUncorrectable then 1 else 0), (0x07#8, st.agePasses),
          (0x08#8, st.alertMask.toNat)]) : st.value id = some v := by
  simp only [List.mem_cons, Prod.mk.injEq, List.not_mem_nil, or_false] at h
  rcases h with ⟨rfl, rfl⟩ | ⟨rfl, rfl⟩ | ⟨rfl, rfl⟩ | ⟨rfl, rfl⟩ | ⟨rfl, rfl⟩ | ⟨rfl, rfl⟩ | ⟨rfl, rfl⟩ | ⟨rfl, rfl⟩
  all_goals rfl

theorem State.runReadSetting_of_value {s : State} {id : Byte} {v : Nat} (h : s.settings.value id = some v) :
    s.runReadSetting id = ({ status := .ok, data := bigEndian 2 v }, s) := by
  rw [State.runReadSetting, h]

theorem State.runReadSetting_of_none {s : State} {id : Byte} (h : s.settings.value id = none) :
    s.runReadSetting id = (.refusal .badArgument 2, s) := by
  rw [State.runReadSetting, h]

theorem State.runReadSlot_of_slot {s : State} {n : Byte} {slot : Slot} (h : s.slots[n.toNat]? = some slot) :
    s.runReadSlot n = ({ status := .ok, data := slot.record }, s) := by
  rw [State.runReadSlot, h]

theorem State.runReadSlot_of_none {s : State} {n : Byte} (h : s.slots[n.toNat]? = none) :
    s.runReadSlot n = (.refusal .badArgument 8, s) := by
  rw [State.runReadSlot, h]

theorem State.runReadHealth_of_place {s : State} {n : Byte} {place : Option HealthEntry}
    (h : s.health[n.toNat]? = some place) : s.runReadHealth n = ({ status := .ok, data := placeRecord place }, s) := by
  rw [State.runReadHealth, h]

theorem State.runReadHealth_of_none {s : State} {n : Byte} (h : s.health[n.toNat]? = none) :
    s.runReadHealth n = (.refusal .badArgument 12, s) := by
  rw [State.runReadHealth, h]

theorem State.runPeekReport_of_head {s : State} {r : ReportRecord} {rest : List ReportRecord} (h : s.reports = r :: rest) :
    s.runPeekReport = ({ status := .ok, data := r.bytes }, s) := by
  rw [State.runPeekReport, h]

theorem State.runPeekReport_of_empty {s : State} (h : s.reports = []) : s.runPeekReport = (.refusal .empty 8, s) := by
  rw [State.runPeekReport, h]

/-! ### The records -/

theorem HealthEntry.flags_byte (e : HealthEntry) :
    BitVec.ofNat 8 e.flags =
      ((if e.uncorrectable then 1#8 else 0#8) ||| (if e.deferred then 2#8 else 0#8)
        ||| (if e.lastSource = .patrol then 4#8 else 0#8)) := by
  unfold HealthEntry.flags
  cases e.uncorrectable <;> cases e.deferred <;> cases e.lastSource <;> rfl

theorem State.freeSpares_eq (s : State) : s.freeSpares = (s.slots.filter (· = .free)).length :=
  List.countP_eq_length_filter

/-- Settles O54: each read by what it finds, and each record's bytes one by one. -/
theorem readCommandsAnswer : Obligations.ReadCommandsAnswer := by
  intro s ha answer st
  refine ⟨exec_served (ran := State.runIdentify) ha fun _ => rfl,
    exec_served (ran := State.runReadStatus) ha fun _ => rfl, fun id hawaits => ⟨fun v hv => ?_, fun hid => ?_⟩,
    fun n hawaits hslots => ⟨fun slot hslot => ?_, fun hn => ?_⟩,
    fun n hawaits hplaces => ⟨fun e he => ?_, fun he => ?_, fun hn => ?_⟩,
    fun n hawaits => ⟨fun hn => ?_, fun hn => ?_⟩, fun hawaits => ⟨fun r rest hr => ?_, fun hr => ?_⟩,
    fun code hcode hawaits => ?_, fun _ _ _ => rfl, commandNamed_eq_none_iff_not_mem, ?_⟩
  · rw [exec_served (ran := fun t => t.runReadSetting id) ha (fun _ => rfl) hawaits,
      State.runReadSetting_of_value (Settings.value_of_named hv)]
    rfl
  · rw [exec_served (ran := fun t => t.runReadSetting id) ha (fun _ => rfl) hawaits,
      State.runReadSetting_of_none (Settings.value_of_unnamed _ hid)]
    rfl
  · rw [exec_served (ran := fun t => t.runReadSlot n) ha (fun _ => rfl) hawaits, State.runReadSlot_of_slot hslot]
    rfl
  · rw [exec_served (ran := fun t => t.runReadSlot n) ha (fun _ => rfl) hawaits,
      State.runReadSlot_of_none (List.getElem?_eq_none (by omega))]
    rfl
  · rw [exec_served (ran := fun t => t.runReadHealth n) ha (fun _ => rfl) hawaits, State.runReadHealth_of_place he]
    rfl
  · rw [exec_served (ran := fun t => t.runReadHealth n) ha (fun _ => rfl) hawaits, State.runReadHealth_of_place he]
    rfl
  · rw [exec_served (ran := fun t => t.runReadHealth n) ha (fun _ => rfl) hawaits,
      State.runReadHealth_of_none (List.getElem?_eq_none (by omega))]
    rfl
  · rw [exec_served (ran := fun t => t.runReadMigration n) ha (fun _ => rfl) hawaits, State.runReadMigration,
      if_pos (by omega)]
    rfl
  · rw [exec_served (ran := fun t => t.runReadMigration n) ha (fun _ => rfl) hawaits, State.runReadMigration,
      if_neg (by omega)]
    rfl
  · rw [exec_served (ran := State.runPeekReport) ha (fun _ => rfl) hawaits, State.runPeekReport_of_head hr]
    rfl
  · rw [exec_served (ran := State.runPeekReport) ha (fun _ => rfl) hawaits, State.runPeekReport_of_empty hr]
    rfl
  · rw [exec_unknownCommand ha, if_pos hcode, State.serve_of_awaits hawaits]
    rfl
  · refine ⟨fun n => ⟨bigEndian_two n, bigEndian_three n⟩, ?_, rfl, rfl, fun home o => ?_, fun home o slot => ?_,
      fun home o p => ?_, fun home o p => ?_, fun e => ?_, rfl, fun c => ?_, rfl, fun r => ?_⟩
    · simp only [State.statusRecord, bigEndian_one, bigEndian_two, bigEndian_three, State.freeSpares_eq]
      cases s.mode <;> cases s.copy <;> rfl
    · simp only [Slot.record, bigEndian_one, bigEndian_three]
      cases o with
      | preset => rfl
      | request reason => cases reason <;> rfl
    · simp only [Slot.record, bigEndian_one, bigEndian_three]
      cases o with
      | preset => rfl
      | request reason => cases reason <;> rfl
    · simp only [Slot.record, bigEndian_one, bigEndian_two, bigEndian_three]
      cases o with
      | preset => rfl
      | request reason => cases reason <;> rfl
    · simp only [Slot.record, bigEndian_one, bigEndian_two, bigEndian_three]
      cases o with
      | preset => rfl
      | request reason => cases reason <;> rfl
    · simp only [HealthEntry.record, bigEndian_one, bigEndian_two, bigEndian_three, HealthEntry.flags_byte]
      cases e.state <;> cases e.lastClass <;> rfl
    · simp only [contextRecord, bigEndian_one, bigEndian_three]
      cases c.sourceSlot <;> cases c.reason <;> cases c.abortPending <;> rfl
    · simp only [requestRecord, bigEndian_one, bigEndian_three]
      cases r.reason <;> rfl

/-! ### POP_REPORT and CLEAR_HEALTH -/

theorem State.runPopReport_of_head {s : State} {r : ReportRecord} {rest : List ReportRecord} (h : s.reports = r :: rest) :
    s.runPopReport = ({ status := .ok, data := r.bytes }, State.evaluateAlert { s with reports := rest }) := by
  rw [State.runPopReport, h]

theorem State.runPopReport_of_empty {s : State} (h : s.reports = []) : s.runPopReport = (.refusal .empty 8, s) := by
  rw [State.runPopReport, h]

/-- CLEAR_HEALTH keeps the entries whose migration is under way (R109). -/
theorem State.runClearHealth_eq (s : State) :
    s.runClearHealth = (.plain .ok, { s with
      health := s.health.map fun place => place.filter fun e => e.state == .queued || e.state == .moving }) := by
  have hkeep : (fun e : HealthEntry => !(e.state == .watch || e.state == .unrepairable)) =
      fun e => e.state == .queued || e.state == .moving := by
    funext e
    cases e.state <;> rfl
  rw [State.runClearHealth, State.removeHealth, hkeep]

/-- A report record, with the qualifier and the field of its report said in other words. -/
theorem ReportRecord.bytes_eq (r : ReportRecord) {kind q f : Nat} (hkind : r.report.code = kind)
    (hq : r.report.qualifier = q) (hf : r.report.field = f) :
    r.bytes = [BitVec.ofNat 8 (r.sequence.toNat / 256), BitVec.ofNat 8 r.sequence.toNat] ++ r.passField ++
      [BitVec.ofNat 8 (16 * q + kind), BitVec.ofNat 8 (f / 65536), BitVec.ofNat 8 (f / 256), BitVec.ofNat 8 f] := by
  simp only [ReportRecord.bytes, bigEndian_one, bigEndian_two, bigEndian_three, hkind, hq, hf, Nat.add_comm kind]
  simp

theorem ReportRecord.passField_of_pass {r : ReportRecord} (h : r.passField = bigEndian 2 r.pass.toNat) :
    r.passField = [BitVec.ofNat 8 (r.pass.toNat / 256), BitVec.ofNat 8 r.pass.toNat] :=
  h.trans (bigEndian_two _)

/-- MIGRATION_DONE carries its target slot and its source in place of the pass (R209). -/
theorem ReportRecord.passField_of_done {r : ReportRecord} {home target carried poisoned : Nat} {slot : Option Nat}
    (h : r.report = .migrationDone home target slot carried poisoned) :
    r.passField = [BitVec.ofNat 8 target, BitVec.ofNat 8 (slot.getD 0x7F)] := by
  rw [ReportRecord.passField, h]
  simp [bigEndian_one]

/-- Settles O59: the head's removal, the entries kept, and each report's bytes. -/
theorem popsAndClears : Obligations.PopsAndClears := by
  intro s ha
  refine ⟨fun hawaits => ⟨fun r rest hr => ?_, fun hr => ?_⟩, fun hawaits => ?_, fun r => ?_⟩
  · rw [exec_served (ran := State.runPopReport) ha (fun _ => rfl) hawaits, State.runPopReport_of_head hr]
    rfl
  · rw [exec_served (ran := State.runPopReport) ha (fun _ => rfl) hawaits, State.runPopReport_of_empty hr]
    rfl
  · rw [exec_served (ran := State.runClearHealth) ha (fun _ => rfl) hawaits, State.runClearHealth_eq]
    rfl
  · obtain ⟨sequence, pass, report⟩ := r
    intro byte laidOut
    cases report with
    | newWeakLine line index isCheck source =>
      rw [ReportRecord.bytes_eq _ rfl rfl (show _ = 8 * line + index by rw [Nat.mul_comm]; rfl),
        ReportRecord.passField_of_pass rfl]
      cases isCheck <;> cases source <;> rfl
    | uncorrectable word isMulti source =>
      rw [ReportRecord.bytes_eq _ rfl rfl rfl, ReportRecord.passField_of_pass rfl]
      cases isMulti <;> cases source <;> rfl
    | hostRefused address direction reason =>
      rw [ReportRecord.bytes_eq _ rfl rfl rfl, ReportRecord.passField_of_pass rfl]
      cases direction <;> cases reason <;> rfl
    | migrationDone home target slot carried poisoned =>
      rw [ReportRecord.bytes_eq _ rfl rfl (show _ = home + 524288 * poisoned by
        rw [Nat.mul_comm]; rfl), ReportRecord.passField_of_done rfl]
      cases slot <;> rfl
    | migrationFailed home reason =>
      rw [ReportRecord.bytes_eq _ rfl rfl rfl, ReportRecord.passField_of_pass rfl]
      cases reason <;> rfl
    | warmReset before discarded home =>
      cases home with
      | none =>
        rw [ReportRecord.bytes_eq _ rfl rfl rfl, ReportRecord.passField_of_pass rfl]
        cases before <;> rfl
      | some home =>
        rw [ReportRecord.bytes_eq _ rfl rfl (show _ = discarded + 16 + 32 * home by rw [Nat.mul_comm]; rfl),
          ReportRecord.passField_of_pass rfl]
        cases before <;> rfl
    | migrationDeferred | healthFull | sweepDone | quietReached | lost =>
      rw [ReportRecord.bytes_eq _ rfl rfl rfl, ReportRecord.passField_of_pass rfl]
      rfl

end Sys2Proof.Machine
end

section
/-! SUPPORT. The writes of the settings (O55, O56), and the commands of the map, the engine and the modes (O57, O58, O60). -/

namespace Sys2Proof.Machine

/-! ### A write of a setting -/

theorem State.runWriteSetting_of_value {s t : State} {id : Byte} {v : BitVec 16} {status : Status} {held : Nat}
    (hput : s.putSetting id v.toNat = (status, t)) (hvalue : t.settings.value id = some held) :
    s.runWriteSetting id v = ({ status := status, data := bigEndian 2 held }, t) := by
  rw [State.runWriteSetting, hput]
  dsimp only
  rw [hvalue]

theorem State.runWriteSetting_of_unnamed {s : State} {id : Byte} {v : BitVec 16}
    (hput : s.putSetting id v.toNat = (.badArgument, s)) (hvalue : s.settings.value id = none) :
    s.runWriteSetting id v = (.refusal .badArgument 2, s) := by
  rw [State.runWriteSetting, hput]
  dsimp only
  rw [hvalue]

/-- A write by the setting's own row or by WRITE_SETTING: its answer carries the value held after it (R196). -/
theorem exec_write {s : State} (ha : s.award = none) {id : Byte} {v : BitVec 16} {c : Instr}
    (hrow : ∀ t : State, exec c t = .next (t.settled.serveWrite id v))
    (hawaits : s.frame.awaits (0x04#8 :: id :: bigEndian 2 v.toNat) = true) {status : Status} {t : State} {held : Nat}
    (hput : s.putSetting id v.toNat = (status, t)) (hvalue : t.settings.value id = some held) :
    exec c s = .next
      { t with frame := Frame.executed 0x04#8 (id :: bigEndian 2 v.toNat) (statusCode status :: bigEndian 2 held) } := by
  rw [exec_served (ran := fun t => t.runWriteSetting id v) ha hrow hawaits, State.runWriteSetting_of_value hput hvalue]
  rfl

/-- The two rows that a write of a setting has. -/
theorem serveWrite_of_mem_pair {own : Instr} {id : Byte} {v : BitVec 16}
    (hown : ∀ t : State, exec own t = .next (t.settled.serveWrite id v)) {c : Instr}
    (hc : c ∈ [own, Instr.writeSetting id v]) (t : State) : exec c t = .next (t.settled.serveWrite id v) := by
  rcases List.mem_pair.mp hc with rfl | rfl
  · exact hown t
  · rfl

theorem State.putSetting_of_unnamed (s : State) {id : Byte} (h : id = 0x00#8 ∨ 8 < id.toNat) (v : Nat) :
    s.putSetting id v = (.badArgument, s) := by
  unfold State.putSetting
  rw [if_neg (ne_named h (by decide)), if_neg (ne_named h (by decide)), if_neg (ne_named h (by decide)),
    if_neg (ne_named h (by decide)), if_neg (ne_named h (by decide)), if_neg (ne_named h (by decide)),
    if_neg (ne_named h (by decide)), if_neg (ne_named h (by decide))]

/-- Settles O55: each setting's tests, and what its write leaves. -/
theorem settingsAreWritten : Obligations.SettingsAreWritten := by
  intro s v ha n received answer st
  refine ⟨fun hawaits c hc => ?_, fun hawaits c hc => ⟨fun hn => ?_, fun hn => ?_⟩,
    fun hawaits c hc => ⟨fun hn => ?_, fun hn => ?_⟩, fun hawaits c hc => ⟨fun hn => ?_, fun hn => ?_, fun hn => ?_⟩,
    fun hawaits c hc => ⟨fun hn => ?_, fun hn => ?_⟩, fun hawaits c hc => ⟨fun hn => ?_, fun hn => ?_⟩,
    fun id hid hawaits => ?_⟩
  · exact exec_write ha (serveWrite_of_mem_pair (fun _ => rfl) hc) hawaits rfl rfl
  · have hdebt : min s.patrol.debt n = if n < s.patrol.debt then n else s.patrol.debt := by split_ifs <;> omega
    have hput : s.putSetting 0x04#8 n = s.putDebtLimit n := rfl
    rw [State.putDebtLimit, if_neg (by omega), hdebt] at hput
    exact exec_write ha (serveWrite_of_mem_pair (fun _ => rfl) hc) hawaits hput rfl
  · have hput : s.putSetting 0x04#8 n = s.putDebtLimit n := rfl
    rw [State.putDebtLimit, if_pos (by omega)] at hput
    exact exec_write ha (serveWrite_of_mem_pair (fun _ => rfl) hc) hawaits hput rfl
  · have hput : s.putSetting 0x05#8 n = s.putMigrateThreshold n := rfl
    rw [State.putMigrateThreshold, if_neg (by omega)] at hput
    exact exec_write ha (serveWrite_of_mem_pair (fun _ => rfl) hc) hawaits hput rfl
  · have hput : s.putSetting 0x05#8 n = s.putMigrateThreshold n := rfl
    rw [State.putMigrateThreshold, if_pos (by omega)] at hput
    exact exec_write ha (serveWrite_of_mem_pair (fun _ => rfl) hc) hawaits hput rfl
  · have hput : s.putSetting 0x06#8 n = (.ok, { s with settings := { st with migrateOnUncorrectable := false } }) := by
      rw [hn]
      rfl
    exact exec_write ha (serveWrite_of_mem_pair (fun _ => rfl) hc) hawaits hput rfl
  · have hput : s.putSetting 0x06#8 n = (.ok, { s with settings := { st with migrateOnUncorrectable := true } }) := by
      rw [hn]
      rfl
    exact exec_write ha (serveWrite_of_mem_pair (fun _ => rfl) hc) hawaits hput rfl
  · have hput : s.putSetting 0x06#8 n = s.putMigrateOnUncorrectable n := rfl
    rw [State.putMigrateOnUncorrectable, if_pos (by omega)] at hput
    exact exec_write ha (serveWrite_of_mem_pair (fun _ => rfl) hc) hawaits hput rfl
  · have hput : s.putSetting 0x07#8 n = s.putAgePasses n := rfl
    rw [State.putAgePasses, if_neg (by omega)] at hput
    exact exec_write ha (serveWrite_of_mem_pair (fun _ => rfl) hc) hawaits hput rfl
  · have hput : s.putSetting 0x07#8 n = s.putAgePasses n := rfl
    rw [State.putAgePasses, if_pos (by omega)] at hput
    exact exec_write ha (serveWrite_of_mem_pair (fun _ => rfl) hc) hawaits hput rfl
  · have hput : s.putSetting 0x08#8 n = s.putAlertMask n := rfl
    have hheld : (v.setWidth 10).toNat = n := by
      rw [BitVec.toNat_setWidth]
      exact Nat.mod_eq_of_lt (by omega)
    rw [State.putAlertMask, if_neg (by omega), BitVec.ofNat_toNat] at hput
    exact exec_write ha (serveWrite_of_mem_pair (fun _ => rfl) hc) hawaits hput (congrArg some hheld)
  · have hput : s.putSetting 0x08#8 n = s.putAlertMask n := rfl
    rw [State.putAlertMask, if_pos (by omega)] at hput
    exact exec_write ha (serveWrite_of_mem_pair (fun _ => rfl) hc) hawaits hput rfl
  · rw [exec_served (ran := fun t => t.runWriteSetting id v) ha (fun _ => rfl) hawaits,
      State.runWriteSetting_of_unnamed (s.putSetting_of_unnamed hid _) (Settings.value_of_unnamed _ hid)]
    rfl

/-! ### The pool's settings -/

theorem State.activeHomeFrom_iff (s : State) (bound : Nat) :
    s.activeHomeFrom bound = true ↔
      ∃ (i home : Nat) (o : Origin) (p : Pass), s.slots[i]? = some (.active home o p) ∧ bound ≤ home := by
  rw [State.activeHomeFrom, List.any_eq_true]
  constructor
  · rintro ⟨slot, hmem, hhome⟩
    obtain ⟨i, hi⟩ := List.mem_iff_getElem?.mp hmem
    cases slot with
    | active home o p => exact ⟨i, home, o, p, hi, by simpa [Slot.activeHome] using hhome⟩
    | absent | free | migrating | retired => cases hhome
  · rintro ⟨i, home, o, p, hi, hle⟩
    exact ⟨_, List.mem_of_getElem? hi, by simpa [Slot.activeHome] using hle⟩

theorem State.poolInUse_iff (s : State) (n : Nat) :
    (s.slots.drop n).any Slot.inUse = true ↔
      ∃ (i : Nat) (slot : Slot), n ≤ i ∧ s.slots[i]? = some slot ∧ slot ≠ .absent ∧ slot ≠ .free := by
  rw [List.any_eq_true]
  constructor
  · rintro ⟨slot, hmem, huse⟩
    obtain ⟨i, hi⟩ := List.mem_iff_getElem?.mp hmem
    rw [List.getElem?_drop] at hi
    have hnot : slot ≠ .free ∧ slot ≠ .absent := by simpa [Slot.inUse] using huse
    exact ⟨n + i, slot, by omega, hi, hnot.2, hnot.1⟩
  · rintro ⟨i, slot, hle, hi, habsent, hfree⟩
    refine ⟨slot, List.mem_of_getElem? (i := i - n) ?_, by simp [Slot.inUse, habsent, hfree]⟩
    rw [List.getElem?_drop, Nat.add_sub_cancel' hle, hi]

theorem State.setMemoryLinesLog2_eq (s : State) (k : Nat) :
    s.setMemoryLinesLog2 k = { s with
      settings := { s.settings with memoryLinesLog2 := k }
      sweepLine := 0
      sweepIndex := 0
      patrol := if s.patrol.line < 2 ^ k then s.patrol else { s.patrol with line := 0, index := 0 }
      health := s.health.map fun place => place.filter fun e => decide (e.line < 2 ^ k) } := by
  have hkeep : (fun e : HealthEntry => !decide (2 ^ k ≤ e.line)) = fun e => decide (e.line < 2 ^ k) := by
    funext e
    rw [← decide_not]
    exact decide_eq_decide.mpr Nat.not_le
  rw [State.setMemoryLinesLog2, State.removeHealth, hkeep]

/-- Settles O56: the tests in their order, then the write. -/
theorem poolSettingsAreWritten : Obligations.PoolSettingsAreWritten := by
  intro s v ha n answer st outOfView inUse
  have hview (bound : Nat) : s.activeHomeFrom bound = true ↔ outOfView bound := s.activeHomeFrom_iff bound
  have huse : (s.slots.drop n).any Slot.inUse = true ↔ inUse := s.poolInUse_iff n
  refine ⟨fun hawaits c hc => ⟨fun hmode => ?_, fun hmode hbad => ?_, fun hmode hlow hhigh hspare hnone => ?_⟩,
    fun hawaits c hc => ⟨fun hmode => ?_, fun hmode hbad => ?_, fun hmode hle hfree hnone => ?_⟩⟩
  · have hput : s.putSetting 0x01#8 n = s.putMemoryLinesLog2 n := rfl
    rw [State.putMemoryLinesLog2, if_pos hmode] at hput
    exact exec_write ha (serveWrite_of_mem_pair (fun _ => rfl) hc) hawaits hput rfl
  · have hput : s.putSetting 0x01#8 n = s.putMemoryLinesLog2 n := rfl
    have hrefused : s.putMemoryLinesLog2 n = (.badArgument, s) := by
      rw [State.putMemoryLinesLog2, if_neg (not_not.mpr hmode)]
      split_ifs with hrange hspare hhome
      · rfl
      · rfl
      · rfl
      · rw [hview] at hhome
        rcases hbad with h | h | h | h
        · omega
        · omega
        · exact absurd h hspare
        · exact absurd h hhome
    exact exec_write ha (serveWrite_of_mem_pair (fun _ => rfl) hc) hawaits (hput.trans hrefused) rfl
  · have hput : s.putSetting 0x01#8 n = s.putMemoryLinesLog2 n := rfl
    rw [State.putMemoryLinesLog2, if_neg (not_not.mpr hmode), if_neg (by omega), if_neg (Nat.not_le.mpr hspare),
      if_neg (fun h => hnone ((hview _).mp h)), State.setMemoryLinesLog2_eq] at hput
    exact exec_write ha (serveWrite_of_mem_pair (fun _ => rfl) hc) hawaits hput rfl
  · have hput : s.putSetting 0x02#8 n = s.putSpareCount n := rfl
    rw [State.putSpareCount, if_pos hmode] at hput
    exact exec_write ha (serveWrite_of_mem_pair (fun _ => rfl) hc) hawaits hput rfl
  · have hput : s.putSetting 0x02#8 n = s.putSpareCount n := rfl
    have hrefused : s.putSpareCount n = (.badArgument, s) := by
      rw [State.putSpareCount, if_neg (not_not.mpr hmode)]
      split_ifs with hrange hslots hhome
      · rfl
      · rfl
      · rfl
      · rw [huse] at hslots
        rw [hview] at hhome
        rcases hbad with h | h | h
        · exact absurd h hrange
        · exact absurd h hslots
        · exact absurd h hhome
    exact exec_write ha (serveWrite_of_mem_pair (fun _ => rfl) hc) hawaits (hput.trans hrefused) rfl
  · have hput : s.putSetting 0x02#8 n = s.putSpareCount n := rfl
    rw [State.putSpareCount, if_neg (not_not.mpr hmode), if_neg (by omega), if_neg (fun h => hfree (huse.mp h)),
      if_neg (fun h => hnone ((hview _).mp h))] at hput
    refine ⟨resizeSlots n 0 s.slots, length_resizeSlots n 0 s.slots, fun i slot hi => ?_,
      exec_write ha (serveWrite_of_mem_pair (fun _ => rfl) hc) hawaits hput rfl⟩
    rw [getElem?_resizeSlots, hi, Nat.zero_add]
    rfl

/-! ### MAP_PRESET and UNMAP_SLOT -/

theorem State.freeSlot_of_lowest {s : State} {i : Nat} (hi : s.slots[i]? = some .free)
    (hlowest : ∀ j < i, s.slots[j]? ≠ some .free) : s.freeSlot = some i := by
  obtain ⟨hlt, hget⟩ := List.getElem?_eq_some_iff.mp hi
  rw [State.freeSlot, List.findIdx?_eq_some_iff_getElem]
  refine ⟨hlt, beq_iff_eq.mpr hget, fun j hj hfree => ?_⟩
  exact hlowest j hj (List.getElem?_eq_some_iff.mpr ⟨by omega, beq_iff_eq.mp hfree⟩)

theorem State.freeSlot_of_none {s : State} (h : ∀ i : Nat, s.slots[i]? ≠ some .free) : s.freeSlot = none := by
  rw [State.freeSlot, List.findIdx?_eq_none_iff]
  intro slot hmem
  obtain ⟨i, hi⟩ := List.mem_iff_getElem?.mp hmem
  rw [beq_eq_false_iff_ne]
  rintro rfl
  exact h i hi

theorem State.activeSlot_isSome_iff (s : State) (home : Nat) :
    (s.activeSlot home).isSome = true ↔ ∃ (i : Nat) (o : Origin) (p : Pass), s.slots[i]? = some (.active home o p) := by
  rw [State.activeSlot, List.findIdx?_isSome, List.any_eq_true]
  simp only [Slot.activeFor_iff]
  constructor
  · rintro ⟨slot, hmem, o, p, rfl⟩
    obtain ⟨i, hi⟩ := List.mem_iff_getElem?.mp hmem
    exact ⟨i, o, p, hi⟩
  · rintro ⟨i, o, p, hi⟩
    exact ⟨_, List.mem_of_getElem? hi, o, p, rfl⟩

theorem State.runMapPreset_of_freeSlot {s : State} {line : Nat} (hmode : s.mode = .uninit) (hline : line < s.poolBase)
    (hnew : ¬ (s.activeSlot line).isSome = true) :
    (s.freeSlot = none → s.runMapPreset line = (.refusal .poolEmpty 1, s)) ∧
    (∀ i, s.freeSlot = some i → s.runMapPreset line =
      ({ status := .ok, data := bigEndian 1 i }, s.setSlot i (.active line .preset s.patrol.pass))) := by
  refine ⟨fun h => ?_, fun i h => ?_⟩
  all_goals rw [State.runMapPreset, if_neg (not_not.mpr hmode), if_neg (Nat.not_le.mpr hline), if_neg hnew, h]

/-- Settles O57: the tests of R124 in their order. -/
theorem presetsAndUnmaps : Obligations.PresetsAndUnmaps := by
  intro s ha answer
  refine ⟨fun line hawaits => ?_, fun number hawaits hslots => ?_⟩
  · intro home preset mapped
    have hmapped : (s.activeSlot home).isSome = true ↔ mapped := s.activeSlot_isSome_iff home
    rw [exec_served (row := .mapPreset line) (ran := fun t => t.runMapPreset line.toNat) ha (fun _ => rfl) hawaits]
    refine ⟨fun hmode => ?_, fun hmode hline => ?_, fun hmode hline hheld => ?_, fun hmode hline hnew hnone => ?_,
      fun i hmode hline hnew hi hlowest => ?_⟩
    · rw [State.runMapPreset, if_pos hmode]
      rfl
    · rw [State.runMapPreset, if_neg (not_not.mpr hmode), if_pos hline]
      rfl
    · rw [State.runMapPreset, if_neg (not_not.mpr hmode), if_neg (Nat.not_le.mpr hline), if_pos (hmapped.mpr hheld)]
      rfl
    · rw [(State.runMapPreset_of_freeSlot hmode hline fun h => hnew (hmapped.mp h)).1 (State.freeSlot_of_none hnone)]
      rfl
    · rw [(State.runMapPreset_of_freeSlot hmode hline fun h => hnew (hmapped.mp h)).2 i
        (State.freeSlot_of_lowest hi hlowest), bigEndian_one]
      rfl
  · intro i
    rw [exec_served (row := .unmapSlot number) (ran := fun t => t.runUnmapSlot number) ha (fun _ => rfl) hawaits]
    refine ⟨fun hmode => ?_, fun hmode hi => ?_, fun slot hmode hi => ?_⟩
    · rw [State.runUnmapSlot, if_pos hmode]
      rfl
    · have hnone : s.slots[number.toNat]? = none := List.getElem?_eq_none (by rw [hslots]; exact hi)
      rw [State.runUnmapSlot, if_neg (not_not.mpr hmode), hnone]
      rfl
    · have hslot : s.slots[number.toNat]? = some slot := hi
      rw [State.runUnmapSlot, if_neg (not_not.mpr hmode), hslot]
      cases slot <;> rfl

/-! ### MIGRATE and CANCEL -/

/-- The condition of a match on the source line's entry, said in one test. -/
theorem State.updateHealth_backToWatch (s : State) (line : Nat) (was : HealthState) :
    s.updateHealth line (fun e => if e.state = was then e.backToWatch else e) =
      { s with
        health := s.health.map fun place => place.map fun e =>
          if e.line = line ∧ e.state = was then { e with state := .watch, deferred := false } else e } := by
  have hentry : (fun e : HealthEntry => if e.line = line then (if e.state = was then e.backToWatch else e) else e) =
      fun e => if e.line = line ∧ e.state = was then { e with state := .watch, deferred := false } else e := by
    funext e
    by_cases hline : e.line = line
    · by_cases hstate : e.state = was <;> simp [hline, hstate, HealthEntry.backToWatch]
    · simp [hline]
  rw [State.updateHealth, hentry]

theorem State.copyOf_of_held {s : State} {c : Copy} (hc : s.copy = some c) : s.copyOf c.home = some c := by
  simp [State.copyOf, hc]

theorem State.copyOf_of_not_held {s : State} {home : Nat} (h : home ∉ (s.copy.map Copy.home).toList) :
    s.copyOf home = none := by
  unfold State.copyOf
  cases hc : s.copy with
  | none => rfl
  | some c =>
    have hne : c.home ≠ home := by
      rintro rfl
      exact h (by simp [hc])
    simp [hne]

theorem State.queued_iff (s : State) (home : Nat) :
    (s.migrations.any fun r => r.home == home) = true ↔ home ∈ s.migrations.map MigrationRequest.home := by
  simp [List.any_eq_true, List.mem_map]

theorem State.runCancel_of_none {s : State} {line : Nat} (hline : line < s.poolBase) (hcopy : s.copyOf line = none) :
    s.runCancel line =
      if s.migrations.any (fun r => r.home == line) then (.plain .ok, s.cancelQueued line) else (.plain .notFound, s) := by
  rw [State.runCancel, if_neg (Nat.not_le.mpr hline), hcopy]

theorem State.runCancel_of_copy {s : State} {line : Nat} {c : Copy} (hline : line < s.poolBase)
    (hcopy : s.copyOf line = some c) : s.runCancel line = (.plain .ok, s.cancelInFlight c) := by
  rw [State.runCancel, if_neg (Nat.not_le.mpr hline), hcopy]

theorem State.runMigrate_of_answer {s : State} {line : Nat} (huninit : s.mode ≠ .uninit) (hsweeping : s.mode ≠ .sweeping)
    (hline : line < s.poolBase) :
    (s.intakeAnswer line = .duplicate → s.runMigrate line = (.plain .duplicate, s)) ∧
    (s.intakeAnswer line = .queueFull → s.runMigrate line = (.plain .queueFull, s)) ∧
    (s.intakeAnswer line = .accepted → s.runMigrate line =
      (.plain .ok, { s with migrations := s.migrations ++ [{ home := line, reason := .command }] })) := by
  have hmode : ¬ (s.mode = .uninit ∨ s.mode = .sweeping) := by
    rintro (h | h)
    · exact huninit h
    · exact hsweeping h
  refine ⟨fun h => ?_, fun h => ?_, fun h => ?_⟩
  · rw [State.runMigrate, if_neg hmode, if_neg (Nat.not_le.mpr hline), h]
  · rw [State.runMigrate, if_neg hmode, if_neg (Nat.not_le.mpr hline), h]
  · rw [State.runMigrate, if_neg hmode, if_neg (Nat.not_le.mpr hline), h, State.intake, h]

/-- An abort made at once, and the quiesce conditions that it may meet (R151, R167). -/
theorem State.quietCheck_cancelCopy (s : State) (c : Copy) :
    (s.cancelCopy c).quietCheck =
      if s.mode = .quiescing ∧ s.writeBacks = [] then
        State.append { s.aborted c with mode := .quiet } .quietReached
      else s.aborted c := by
  have hmode : (s.aborted c).mode = s.mode := by simp [State.aborted]
  have hcopy : (s.aborted c).copy = none := by simp [State.aborted]
  have hqueue : (s.aborted c).writeBacks = s.writeBacks := by simp [State.aborted]
  rw [State.cancelCopy_eq_aborted, State.quietCheck_eq_quieted]
  exact if_congr (by simp only [hmode, hcopy, hqueue, true_and]) rfl rfl

/-- Settles O58: MIGRATE by the intake's answer, CANCEL by where the line's request stands. -/
theorem requestsAndCancels : Obligations.RequestsAndCancels := by
  intro s line ha home answer queued inFlight back
  refine ⟨fun hawaits => ?_, fun hawaits => ?_⟩
  · rw [exec_served (row := .migrate line) (ran := fun t => t.runMigrate line.toNat) ha (fun _ => rfl) hawaits]
    have hanswer := s.intakeAnswer_eq home
    refine ⟨fun hmode => ?_, fun huninit hsweeping => ⟨fun hline => ?_, fun hline hheld => ?_,
      fun hline hnot hidle hfull => ?_, fun hline hnot hidle hroom => ?_⟩⟩
    · rw [State.runMigrate, if_pos hmode]
      rfl
    · rw [State.runMigrate, if_neg (not_or.mpr ⟨huninit, hsweeping⟩), if_pos hline]
      rfl
    · rw [if_pos hheld] at hanswer
      rw [(State.runMigrate_of_answer huninit hsweeping hline).1 hanswer]
      rfl
    · rw [if_neg (not_or.mpr ⟨hnot, hidle⟩), if_pos hfull] at hanswer
      rw [(State.runMigrate_of_answer huninit hsweeping hline).2.1 hanswer]
      rfl
    · rw [if_neg (not_or.mpr ⟨hnot, hidle⟩), if_neg (Nat.not_le.mpr hroom)] at hanswer
      rw [(State.runMigrate_of_answer huninit hsweeping hline).2.2 hanswer]
      rfl
  · rw [exec_served (row := .cancel line) (ran := fun t => t.runCancel line.toNat) ha (fun _ => rfl) hawaits]
    refine ⟨fun hline => ?_, fun hline hnot hidle => ?_, fun hline hheld hidle => ?_, fun c hline hc hhome => ⟨?_, ?_⟩⟩
    · rw [State.runCancel, if_pos hline]
      rfl
    · rw [State.runCancel_of_none hline (State.copyOf_of_not_held hidle), if_neg (fun h => hnot ((s.queued_iff _).mp h))]
      rfl
    · rw [State.runCancel_of_none hline (State.copyOf_of_not_held hidle), if_pos ((s.queued_iff _).mpr hheld),
        State.cancelQueued, State.healthUnqueued, State.updateHealth_backToWatch]
      rfl
    all_goals
      have hcopy : s.copyOf line.toNat = some c := by
        rw [← show c.home = line.toNat from hhome]
        exact State.copyOf_of_held hc
      have hholds : s.portHoldsCopy = true ↔ s.port.holder = .host ∨ s.port.holder = .step .copy := by
        simp [State.portHoldsCopy]
      rw [State.runCancel_of_copy hline hcopy, State.cancelInFlight]
    · intro hholder
      rw [if_pos (hholds.mpr hholder)]
      rfl
    · intro hhost hstep
      rw [if_neg (fun h => (hholds.mp h).elim hhost hstep), State.quietCheck_cancelCopy, State.aborted,
        show c.home = home from hhome]
      rfl

/-! ### The mode commands -/

/-- A waiting cycle's refusal, its response by whether HSTB is held (R15, R22). -/
theorem State.refuseCycle_eq (s : State) (r : CycleRecord) (reason : RefusalReason) :
    s.refuseCycle r reason =
      State.append
        { s with
          host := s.answered { r with writeBackPass := false, patrolPass := false, starvationPass := false }
            (.refused reason) (if r.kind = .read then some 0#32 else none) }
        (.hostRefused r.address (if r.kind = .read then .read else .write) reason) := by
  have hdirection : r.kind.direction = if r.kind = .read then .read else .write := by
    cases r.kind <;> rfl
  rw [← hdirection, State.append_withHost]
  let cleared : CycleRecord := { r with writeBackPass := false, patrolPass := false, starvationPass := false }
  let t : State := { s with host := { s.host with record := some cleared } }
  change (t.append _).respond _ _ = _
  rw [State.respond_of_record (r := cleared) _ (by simp [t]), State.answered_of_eq (s := s) (by simp [t]),
    State.append_withHost]

theorem State.refuseWaiting_of_not_waiting {s : State} (h : s.host.state ≠ .waiting) : s.refuseWaiting = s := by
  rw [State.refuseWaiting, if_neg (by simpa [State.hostWaiting] using h)]

theorem State.refuseWaiting_of_waiting {s : State} {r : CycleRecord} (h : s.host.state = .waiting)
    (hr : s.host.record = some r) : s.refuseWaiting = s.refuseCycle r .notReady := by
  rw [State.refuseWaiting, if_pos (by simpa [State.hostWaiting] using h), hr]

theorem State.runStartSweep_of_accepted {s : State} (h : s.mode = .uninit ∨ s.mode = .quiet) :
    s.runStartSweep = (.plain .ok,
      (State.refuseWaiting { s with mode := .sweeping, sweepLine := 0, sweepIndex := 0 }).arbitrate) := if_pos h

/-- Settles O60: each mode command by the mode. -/
theorem modeCommandsAnswer : Obligations.ModeCommandsAnswer := by
  intro s ha answer rested
  refine ⟨fun hawaits => ?_, fun hawaits => ?_, fun hawaits => ?_, fun hawaits => ?_⟩
  · intro begun
    rw [exec_served (row := .startSweep) (ran := State.runStartSweep) ha (fun _ => rfl) hawaits]
    refine ⟨fun hmode => ?_, fun hmode hidle => ?_, fun r hmode hwaiting hr => ?_⟩
    · rw [State.runStartSweep, if_neg (by rintro (h | h) <;> simp [h] at hmode)]
      rfl
    · rw [State.runStartSweep_of_accepted (by simpa using hmode), State.refuseWaiting_of_not_waiting (s := begun) hidle,
        State.arbitrate_eq_decidedIfFree begun ha]
      rfl
    · rw [State.runStartSweep_of_accepted (by simpa using hmode),
        State.refuseWaiting_of_waiting (s := begun) hwaiting hr, State.refuseCycle_eq,
        State.arbitrate_eq_decidedIfFree _ (by simpa using ha)]
      rfl
  · rw [exec_served (row := .adopt) (ran := State.runAdopt) ha (fun _ => rfl) hawaits]
    refine ⟨fun hmode => ?_, fun hmode => ?_⟩
    · rw [State.runAdopt, if_pos hmode]
      rfl
    · rw [State.runAdopt, if_neg hmode]
      rfl
  · rw [exec_served (row := .quiesce) (ran := State.runQuiesce) ha (fun _ => rfl) hawaits]
    refine ⟨fun hmode => ?_, fun hmode => ?_, fun hmode => ⟨fun hopen => ?_, fun hcopy hqueue => ?_⟩⟩
    · have : s.runQuiesce = (.plain .wrongMode, s) := by
        simp only [List.mem_cons, List.not_mem_nil, or_false] at hmode
        rcases hmode with h | h | h <;> rw [State.runQuiesce, h]
      rw [this]
      rfl
    · rw [State.runQuiesce, hmode]
      rfl
    · have : s.runQuiesce = (.plain .ok, { s with mode := .quiescing, patrol := rested }) := by
        rw [State.runQuiesce, hmode]
        exact congrArg (Prod.mk _) (State.quietCheck_of_not_conditions _ hopen)
      rw [this]
      rfl
    · have : s.runQuiesce = (.plain .ok, State.append { s with mode := .quiet, patrol := rested } .quietReached) := by
        rw [State.runQuiesce, hmode]
        exact congrArg (Prod.mk _) (State.quietCheck_of_conditions _ rfl hcopy hqueue)
      rw [this]
      rfl
  · rw [exec_served (row := .resume) (ran := State.runResume) ha (fun _ => rfl) hawaits]
    refine ⟨fun hmode => ?_, fun hmode => ?_⟩
    · rw [State.runResume, if_pos (by simpa using hmode)]
      rfl
    · rw [State.runResume, if_neg (by rintro (h | h) <;> simp [h] at hmode)]
      rfl

end Sys2Proof.Machine
end
